-- ==== Sys2Proof/Word.lean ====
section
/-! DEFINITION. The word types of the machine (R16, R17): bytes, 16-bit words and addresses, and sparse byte memories
as plain data. -/

namespace Sys2Proof

/-- One byte: a register, a memory location, an immediate `d8`, `a8` or `e8` (R16). -/
abbrev Byte := BitVec 8

/-- One 16-bit word: an address, SP, PC, a register pair, an immediate `d16` or `a16` (R16). -/
abbrev Word := BitVec 16

/-- A memory as plain data: pairs of a key and a byte, keys strictly rising, no entry equal to what an unlisted key
reads as (0x00, log entries 2 and 4). The key is a bus address for the four internal memories, an image offset for the
boot and cartridge images. -/
abbrev Memory := List Host.Cell

end Sys2Proof
end

