-- ==== Sys2Proof/Config.lean ====
section
/-! DEFINITION. The fixed parameters of the machine (R6), the launch parameters the spec leaves open with a default
(R8, R9), and the free values: the fault hook's answer when the host has queued none, and the behaviour of a cartridge
other than the minimal one. -/

namespace Sys2Proof

/-- Frame length in cycles (R6). -/
def frameCycles : Nat := 70224

/-- Scanline length in cycles (R6). -/
def lineCycles : Nat := 456

/-- The sixteen implemented slots of the I/O register file by name (R55, R91). -/
inductive IoReg where
  | joyp | div | tima | tma | tac | intFlag | lcdc | stat | scy | scx | ly | lyc | bgp | obp0 | obp1 | bank
deriving DecidableEq, Repr

/-- The spec's default for `IoImplemented`: all sixteen (R55, D20). -/
def IoReg.default : List IoReg :=
  [.joyp, .div, .tima, .tma, .tac, .intFlag, .lcdc, .stat, .scy, .scx, .ly, .lyc, .bgp, .obp0, .obp1, .bank]

/-- The cartridges (R11): the minimal one, and any other, the open parameter `Cartridge` (D35, log entry 16). -/
inductive CartridgeKind where
  | minimal | other
deriving DecidableEq, Repr

/-- The regions a cartridge is read through (R11). -/
inductive CartRegion where
  | rom0 | rom1 | extRam
deriving DecidableEq, Repr

/-- One `CartWrite(addr, value)` (R11). -/
structure CartWrite where
  addr : Word
  value : Byte
deriving DecidableEq, Repr

/-- One entry of a dispatch table (R8, D1, log entry 15). -/
inductive DispatchEntry where
  /-- The operation that the tables of files 40 to 46 hold under `op` on the same page. -/
  | operation (op : Byte)
  /-- An empty entry: UnknownOpcode (R130). -/
  | empty
  /-- An operation that no rule of files 40 to 46 describes. -/
  | other
deriving DecidableEq, Repr

/-- `DispatchTable` (R8): the entries of the two pages that differ from the tables of files 40 to 46. -/
structure DispatchTable where
  base : List (Byte × DispatchEntry)
  cb : List (Byte × DispatchEntry)
deriving DecidableEq, Repr

/-- The spec's default: the tables of files 40 to 46 (R126, R127, D1). -/
def DispatchTable.default : DispatchTable := { base := [], cb := [] }

/-- What is fixed at power-on and never changes (R9, R54). -/
structure Config where
  /-- The boot image, 256 bytes by offset, when one is present (R9). -/
  boot : Option Memory
  /-- `CartImage` by offset; `none` is "no cartridge present" (R9, R11). -/
  rom : Option Memory
  /-- Which cartridge holds the image (R8, R11). -/
  cartridge : CartridgeKind
  /-- `DispatchTable` (R8). -/
  dispatch : DispatchTable
  /-- `EI_DELAY` = 1 (R8, R328). -/
  eiDelay : Bool
  /-- `IoImplemented` (R8, R55). -/
  ioImplemented : List IoReg
deriving DecidableEq, Repr

/-- The answers of the fault hook (R13). -/
inductive HookAnswer where
  | resume | abort
deriving DecidableEq, Repr, Inhabited

/-- FREE VALUE (log entry 6): the fault hook's answer to `code` at its n-th consultation without a queued answer.
The spec makes it a host input (R13, D13). -/
opaque Config.onUnknownOpcode : Nat → Byte → HookAnswer

/-- FREE VALUE (log entry 16): `CartRead(region, offset)` of a cartridge other than the minimal one, from its image and
the writes it has taken, the last one first (R11, D35). -/
opaque Config.cartRead : Memory → List CartWrite → CartRegion → Nat → Byte

/-- FREE VALUE (log entry 16): such a cartridge has enabled external RAM (R82). -/
opaque Config.extRamEnabled : Memory → List CartWrite → Bool

end Sys2Proof
end

