-- ==== Sys2Proof/Machine/State.lean ====
section
/-! DEFINITION. The state of the CORE (R20) as plain data, the reasons a step can stop, and the state after reset. -/

namespace Sys2Proof.Machine

/-- The run state of the processor (R28). -/
inductive RunMode where
  | running | halted | stopped
deriving DecidableEq, Repr

/-- The Processor's state (R20). The pairs AF, BC, DE, HL are views of these bytes (R22). -/
structure Cpu where
  a : Byte
  /-- The flags, Z N H C in bits 7 to 4 (R25). -/
  f : Byte
  b : Byte
  c : Byte
  d : Byte
  e : Byte
  h : Byte
  l : Byte
  /-- R23. -/
  sp : Word
  /-- R24. -/
  pc : Word
  /-- R26. -/
  ime : Bool
  /-- R27. -/
  imePending : Bool
  /-- R28. -/
  mode : RunMode
deriving DecidableEq, Repr

/-- TimerAndInterrupts (R31 to R40). -/
structure Timer where
  div : Byte
  tima : Byte
  tma : Byte
  /-- The three stored bits of TAC (R34). -/
  tac : BitVec 3
  nextDIVCycle : Nat
  nextTIMACycle : Nat
  /-- IF, its five stored bits (R37). -/
  intFlag : BitVec 5
  /-- IE (R38). -/
  intEnable : Byte
  ly : Byte
  lyc : Byte
deriving DecidableEq, Repr

/-- The MemoryBus's state (R41 to R44). -/
structure Bus where
  /-- VRAM, WRAM, OAM and HRAM, keyed by bus address (R41). -/
  mem : Memory
  bank : Byte
  joypSelect : BitVec 2
  /-- The state of a cartridge other than the minimal one: the writes it has taken, the last one first (R8, R11, log
  entry 16). -/
  cart : List CartWrite
  vramBlocked : Bool
  oamBlocked : Bool
deriving DecidableEq, Repr

/-- The PPU modes (R45). -/
inductive PpuMode where
  /-- Mode 0. -/
  | hblank
  /-- Mode 1. -/
  | vblank
  /-- Mode 2. -/
  | oamScan
  /-- Mode 3. -/
  | draw
deriving DecidableEq, Repr

/-- The fetcher's step (R50). -/
inductive FetchStep where
  | getTile | dataLow | dataHigh | push
deriving DecidableEq, Repr

/-- A FIFO entry (R51). -/
structure FifoEntry where
  colorIndex : BitVec 2
  paletteBit : Bool
  priorityBit : Bool
deriving DecidableEq, Repr

/-- A scan result: an OAM entry index and its `fetched` bit (R52). -/
structure ScanEntry where
  index : Nat
  fetched : Bool
deriving DecidableEq, Repr

/-- The PixelPipeline's state (R45 to R53). -/
structure Ppu where
  mode : PpuMode
  lcdc : Byte
  /-- The stored bits 6 to 3 of STAT (R441). -/
  statEnable : BitVec 4
  scy : Byte
  scx : Byte
  bgp : Byte
  obp0 : Byte
  obp1 : Byte
  fetchX : Nat
  fetchStep : FetchStep
  fetchDot : Bool
  fetchDummy : Bool
  tileNo : Byte
  tileLo : Byte
  tileHi : Byte
  /-- Front first. -/
  bgFifo : List FifoEntry
  /-- Front first. -/
  spriteFifo : List FifoEntry
  scan : List ScanEntry
  lcdX : Nat
  discard : Nat
  stall : Nat
  pendingSprite : Option Nat
  /-- The LCD buffer (R47): cell (y, x) under key `160 * y + x`, an unlisted cell holding 0. -/
  lcd : List (Nat × BitVec 2)
  frameReady : Bool
  blankFrame : Bool
deriving DecidableEq, Repr

/-- Everything `Tick()` may change: the cycle counter and the three units (R73). -/
structure Units where
  /-- R29. -/
  cycles : Nat
  /-- R30. -/
  frameDone : Bool
  timer : Timer
  bus : Bus
  ppu : Ppu
deriving DecidableEq, Repr

/-- The eight buttons (R12), true = pressed. -/
structure InputLatch where
  up : Bool
  down : Bool
  left : Bool
  right : Bool
  a : Bool
  b : Bool
  start : Bool
  select : Bool
deriving DecidableEq, Repr

/-- No button pressed: the latch before the first refresh (R367, R492). -/
def InputLatch.none : InputLatch := ⟨false, false, false, false, false, false, false, false⟩

/-- What `Step()` returns (R321). -/
inductive StepOutcome where
  | continued
  | halted
  | unknownOpcode (code : Byte)
deriving DecidableEq, Repr

/-- What `RunFrame` returns (R470). -/
inductive FrameOutcome where
  | completed
  | abortedByHost
deriving DecidableEq, Repr

/-- The host's side: its inputs (R12, R13) and the reports it is given. `latch` is the spec's InputLatch; the other
fields are the model's own (log entries 5, 6, 8, 9). -/
structure Outside where
  latch : InputLatch
  /-- The InputLatch values of the refreshes still to come (log entry 5). -/
  latchQueue : List InputLatch
  /-- The hook's answers still to come (log entry 6). -/
  hookQueue : List HookAnswer
  /-- How often the free hook `Config.onUnknownOpcode` has been consulted (log entry 6). -/
  hookCalls : Nat
  /-- A `RunFrame` call is in progress (log entry 8). -/
  inFrame : Bool
  /-- The outcome of the last iteration's `Step()`, none after an interrupt service (log entry 9). -/
  outcome : Option StepOutcome
  /-- What `RunFrame` returned at the end of the last iteration, none if it goes on (log entry 9). -/
  frameOutcome : Option FrameOutcome
deriving DecidableEq, Repr

/-- The state of the machine. -/
structure State where
  cpu : Cpu
  units : Units
  outside : Outside
  cfg : Config
deriving DecidableEq, Repr

/-- Why a step faults: no reason exists. The one fault of the spec, `UnknownOpcode(code)` (R341), has a next state
and is reported in `Outside.outcome` (log entry 7). -/
inductive Fault where
deriving DecidableEq, Repr

/-- Why a step is refused. -/
inductive Refusal where
  /-- Raised by an arm of `exec` whose instruction has no meaning yet: safe. No arm is refused. -/
  | notModelled (mnemonic : String)
deriving DecidableEq, Repr

/-- The answer of a meaning. -/
abbrev Result := Host.Outcome State Fault Refusal

/-- The Processor after a reset without a boot image: the fallback post-boot state (R21, R492). -/
def Cpu.reset : Cpu where
  a := 0x01#8
  f := 0x00#8
  b := 0x00#8
  c := 0x13#8
  d := 0x00#8
  e := 0xD8#8
  h := 0x01#8
  l := 0x4D#8
  sp := 0xFFFE#16
  pc := 0x0100#16
  ime := false
  imePending := false
  mode := .running

/-- R492. -/
def Timer.reset : Timer where
  div := 0x00#8
  tima := 0x00#8
  tma := 0x00#8
  tac := 0#3
  nextDIVCycle := 256
  nextTIMACycle := 1024
  intFlag := 0#5
  intEnable := 0x00#8
  ly := 0x00#8
  lyc := 0x00#8

/-- R492 without a boot image; no byte of memory listed (log entry 2). -/
def Bus.reset : Bus where
  mem := []
  bank := 0x01#8
  joypSelect := 0b00#2
  cart := []
  vramBlocked := false
  oamBlocked := true

/-- R492. -/
def Ppu.reset : Ppu where
  mode := .oamScan
  lcdc := 0x00#8
  statEnable := 0#4
  scy := 0x00#8
  scx := 0x00#8
  bgp := 0x00#8
  obp0 := 0x00#8
  obp1 := 0x00#8
  fetchX := 0
  fetchStep := .getTile
  fetchDot := false
  fetchDummy := true
  tileNo := 0x00#8
  tileLo := 0x00#8
  tileHi := 0x00#8
  bgFifo := []
  spriteFifo := []
  scan := []
  lcdX := 0
  discard := 0
  stall := 0
  pendingSprite := none
  lcd := []
  frameReady := false
  blankFrame := true

/-- R492. -/
def Units.reset : Units where
  cycles := 0
  frameDone := false
  timer := Timer.reset
  bus := Bus.reset
  ppu := Ppu.reset

/-- The host's side before the first `RunFrame`: no button pressed (R492), nothing queued (log entries 5, 6, 8, 9). -/
def Outside.reset : Outside where
  latch := InputLatch.none
  latchQueue := []
  hookQueue := []
  hookCalls := 0
  inFrame := false
  outcome := none
  frameOutcome := none

/-- Neither boot image nor cartridge, the default parameters (R8, R491; log entry 1). -/
def Config.reset : Config where
  boot := none
  rom := none
  cartridge := .minimal
  dispatch := DispatchTable.default
  eiDelay := true
  ioImplemented := IoReg.default

/-- The machine right after power-on with neither boot image nor cartridge (R491, R492). -/
def State.reset : State where
  cpu := Cpu.reset
  units := Units.reset
  outside := Outside.reset
  cfg := Config.reset

end Sys2Proof.Machine
end

