-- ==== Sys2Proof/Machine/Sparse.lean ====
section
/-! DEFINITION. Sparse data by key: a list of key and value in one canonical form, keys strictly rising, no entry equal
to the default that an unlisted key reads as. Used for the byte memories (default 0x00, log entries 2 and 4) and the LCD
buffer (default 0, R47). -/

namespace Sys2Proof.Machine

/-- The value under key `a`. -/
def Sparse.read {α : Type} (dflt : α) : List (Nat × α) → Nat → α
  | [], _ => dflt
  | (k, v) :: rest, a => if a = k then v else Sparse.read dflt rest a

/-- `v` stored under key `a`; storing the default removes the entry. -/
def Sparse.write {α : Type} [DecidableEq α] (dflt : α) : List (Nat × α) → Nat → α → List (Nat × α)
  | [], a, v => if v = dflt then [] else [(a, v)]
  | (k, w) :: rest, a, v =>
    if a < k then (if v = dflt then (k, w) :: rest else (a, v) :: (k, w) :: rest)
    else if a = k then (if v = dflt then rest else (a, v) :: rest)
    else (k, w) :: Sparse.write dflt rest a v

/-- The canonical form from key `lo` up: keys rise strictly from `lo`, no entry is the default. -/
def Sparse.wfFrom {α : Type} [DecidableEq α] (dflt : α) : Nat → List (Nat × α) → Bool
  | _, [] => true
  | lo, (k, v) :: rest => decide (lo ≤ k) && decide (v ≠ dflt) && Sparse.wfFrom dflt (k + 1) rest

/-- The canonical form. -/
def Sparse.wf {α : Type} [DecidableEq α] (dflt : α) (m : List (Nat × α)) : Bool := Sparse.wfFrom dflt 0 m

/-- One byte of a memory; an unlisted key reads 0x00 (log entry 2). -/
def Memory.read (m : Memory) (a : Nat) : Byte := Sparse.read 0x00#8 m a

/-- One byte of a memory written. -/
def Memory.write (m : Memory) (a : Nat) (v : Byte) : Memory := Sparse.write 0x00#8 m a v

/-- The canonical form of a memory. -/
def Memory.wf (m : Memory) : Bool := Sparse.wf 0x00#8 m

/-- The memory that holds a list of bytes from key `k` on (an image file, R9). -/
def Memory.ofBytesFrom : Nat → List Byte → Memory
  | _, [] => []
  | k, v :: rest => if v = 0x00#8 then Memory.ofBytesFrom (k + 1) rest else (k, v) :: Memory.ofBytesFrom (k + 1) rest

/-- The memory that holds a list of bytes from key 0 on. -/
def Memory.ofBytes (bs : List Byte) : Memory := Memory.ofBytesFrom 0 bs

end Sys2Proof.Machine
end

