-- ==== Sys2Proof/Machine/TimerUnit.lean ====
section
/-! DEFINITION. The timer unit: the interrupt-request register's operations (R346, R349), DIV, TIMA, LY and the LYC
comparison, once per tick (R380 to R393), and the effect of a TAC write (R387). -/

namespace Sys2Proof.Machine

/-- `RequestInterrupt(k)`: `IF[k] <- 1` (R346). -/
def requestInterrupt (k : Nat) (u : Units) : Units :=
  { u with timer := { u.timer with intFlag := u.timer.intFlag ||| (1#5 <<< k) } }

/-- `IF & IE & 0x1F` (R349). -/
def pendingBits (t : Timer) : BitVec 5 := t.intFlag &&& t.intEnable.setWidth 5

/-- `NextPendingInterrupt()`: the lowest k in 0..4 with `(IF & IE & 0x1F)[k] = 1`, or none (R349). -/
def nextPendingInterrupt (t : Timer) : Option Nat :=
  let p := pendingBits t
  if p.getLsbD 0 then some 0
  else if p.getLsbD 1 then some 1
  else if p.getLsbD 2 then some 2
  else if p.getLsbD 3 then some 3
  else if p.getLsbD 4 then some 4
  else none

/-- Bit n of the stored STAT enables, n in 3..6 (R441). -/
def statBit (p : Ppu) (n : Nat) : Bool := p.statEnable.getLsbD (n - 3)

/-- The DIV step (R383). -/
def divStep (u : Units) : Units :=
  if u.cycles = u.timer.nextDIVCycle then
    { u with timer := { u.timer with
        div := u.timer.div + 1#8
        nextDIVCycle := (u.cycles + 256) % frameCycles } }
  else u

/-- `period(s)`, by the clock select TAC[1:0] (R385). -/
def timaPeriod (tac : BitVec 3) : Nat :=
  match tac.toNat % 4 with
  | 0 => 1024
  | 1 => 16
  | 2 => 64
  | _ => 256

/-- TAC[2], the timer enable (R34). -/
def tacEnabled (tac : BitVec 3) : Bool := tac.getLsbD 2

/-- The TIMA step (R385, R388). -/
def timaStep (u : Units) : Units :=
  if tacEnabled u.timer.tac ∧ u.cycles = u.timer.nextTIMACycle then
    let next := (u.cycles + timaPeriod u.timer.tac) % frameCycles
    let v := u.timer.tima + 1#8
    if v = 0#8 then
      requestInterrupt 2 { u with timer := { u.timer with tima := u.timer.tma, nextTIMACycle := next } }
    else { u with timer := { u.timer with tima := v, nextTIMACycle := next } }
  else u

/-- The LY = LYC comparison (R390). -/
def compareLYC (u : Units) : Units :=
  if u.timer.ly = u.timer.lyc ∧ statBit u.ppu 6 then requestInterrupt 1 u else u

/-- The LY step (R389). -/
def lyStep (u : Units) : Units :=
  let n := BitVec.ofNat 8 (u.cycles / lineCycles)
  if n = u.timer.ly then u else compareLYC { u with timer := { u.timer with ly := n } }

/-- `TimerTick()` (R382). -/
def timerTick (u : Units) : Units := lyStep (timaStep (divStep u))

/-- The effect of writing `v` to TAC (R387). -/
def writeTAC (v : Byte) (u : Units) : Units :=
  let old := u.timer.tac
  let new : BitVec 3 := v.setWidth 3
  if tacEnabled new ∧ (tacEnabled old = false ∨ old.toNat % 4 ≠ new.toNat % 4) then
    { u with timer := { u.timer with tac := new, nextTIMACycle := (u.cycles + timaPeriod new) % frameCycles } }
  else { u with timer := { u.timer with tac := new } }

end Sys2Proof.Machine
end

