-- ==== Sys2Proof/Machine/PixelPipeline.lean ====
section
/-! DEFINITION. The pixel pipeline: `PixelTick()` (R410 to R437). It reads VRAM and OAM directly, unblocked and at no
cost (R90). -/

namespace Sys2Proof.Machine

/-- LCDC bit n (R440). -/
def lcdcBit (p : Ppu) (n : Nat) : Bool := p.lcdc.getLsbD n

/-- The pipeline's own read of VRAM at bus address `addr` (R90). -/
def vramByte (u : Units) (addr : Nat) : Byte := Memory.read u.bus.mem addr

/-- The pipeline's own read of OAM at offset `off` (R90, R419). -/
def oamByte (u : Units) (off : Nat) : Byte := Memory.read u.bus.mem (0xFE00 + off)

/-- The sprite height (R440, LCDC bit 2). -/
def spriteHeight (p : Ppu) : Nat := if lcdcBit p 2 then 16 else 8

/-- Sets the mode and, with it, the blocking flags (R414). -/
def enterMode (m : PpuMode) (u : Units) : Units :=
  { u with
    bus := { u.bus with
      vramBlocked := decide (m = .draw)
      oamBlocked := decide (m = .oamScan ∨ m = .draw) }
    ppu := { u.ppu with mode := m } }

/-- `RequestInterrupt(1)` if STAT bit n is set (R437). -/
def requestStat (n : Nat) (u : Units) : Units := if statBit u.ppu n then requestInterrupt 1 u else u

/-- `FrameStart()` (R413). -/
def frameStart (u : Units) : Units :=
  { u with ppu := { u.ppu with scan := [], frameReady := false, blankFrame := !(lcdcBit u.ppu 7) } }

/-- `EnterMode2()` (R415). -/
def enterMode2 (u : Units) : Units := requestStat 5 (enterMode .oamScan u)

/-- `EnterMode0()` (R416). -/
def enterMode0 (u : Units) : Units := requestStat 3 (enterMode .hblank u)

/-- `EnterMode1()` (R417). -/
def enterMode1 (u : Units) : Units :=
  let u := requestInterrupt 0 (enterMode .vblank u)
  requestStat 4 { u with ppu := { u.ppu with frameReady := true } }

/-- The selection test of the OAM scan for entry i (R418). -/
def scanSelects (u : Units) (i : Nat) : Bool :=
  let y := (oamByte u (4 * i)).toNat
  let ly := u.timer.ly.toNat
  decide (y ≤ ly + 16 ∧ ly + 16 < y + spriteHeight u.ppu)

/-- `Scan()`: the first ten selected entries in OAM order (R418). -/
def scanOam (u : Units) : List ScanEntry :=
  (((List.range 40).filter (scanSelects u)).take 10).map fun i => { index := i, fetched := false }

/-- `EnterMode3()` (R420), with the fetcher's latches re-initialised too (R50, log entry 24). -/
def enterMode3 (u : Units) : Units :=
  let u := enterMode .draw u
  { u with ppu := { u.ppu with
      scan := scanOam u
      bgFifo := []
      spriteFifo := []
      fetchX := 0
      fetchStep := .getTile
      fetchDot := false
      fetchDummy := true
      tileNo := 0x00#8
      tileLo := 0x00#8
      tileHi := 0x00#8
      lcdX := 0
      discard := u.ppu.scx.toNat % 8
      stall := 0
      pendingSprite := none } }

/-- `MapAddr()` (R423). -/
def mapAddr (u : Units) : Nat :=
  let base := if lcdcBit u.ppu 3 then 0x9C00 else 0x9800
  let tx := (u.ppu.scx.toNat / 8 + u.ppu.fetchX) % 32
  let ty := (u.timer.ly.toNat + u.ppu.scy.toNat) % 256 / 8
  base + 32 * ty + tx

/-- `DataAddr()` (R423). -/
def dataAddr (u : Units) : Nat :=
  let row := (u.timer.ly.toNat + u.ppu.scy.toNat) % 8
  if lcdcBit u.ppu 4 then 0x8000 + 16 * u.ppu.tileNo.toNat + 2 * row
  else (0x9000 + 16 * u.ppu.tileNo.toInt + 2 * (row : Int)).toNat

/-- The colour index of one pixel from its two bit planes (R424, R430). -/
def colorOf (hi lo : Bool) : BitVec 2 := BitVec.ofBool hi ++ BitVec.ofBool lo

/-- The eight entries `PushTile()` appends, leftmost pixel first (R424). -/
def tileEntries (p : Ppu) : List FifoEntry :=
  (List.range 8).map fun i =>
    let ci := if lcdcBit p 0 then colorOf (p.tileHi.getLsbD (7 - i)) (p.tileLo.getLsbD (7 - i)) else 0#2
    { colorIndex := ci, paletteBit := false, priorityBit := decide (ci ≠ 0#2) }

/-- `FetcherStep()` (R422). -/
def fetcherStep (u : Units) : Units :=
  let p := u.ppu
  match p.fetchStep with
  | .getTile =>
    if p.fetchDot then
      { u with ppu := { p with tileNo := vramByte u (mapAddr u), fetchDot := false, fetchStep := .dataLow } }
    else { u with ppu := { p with fetchDot := true } }
  | .dataLow =>
    if p.fetchDot then
      { u with ppu := { p with tileLo := vramByte u (dataAddr u), fetchDot := false, fetchStep := .dataHigh } }
    else { u with ppu := { p with fetchDot := true } }
  | .dataHigh =>
    if p.fetchDot then
      { u with ppu := { p with
          tileHi := vramByte u (dataAddr u + 1)
          fetchDot := false
          fetchDummy := false
          fetchStep := if p.fetchDummy then .getTile else .push } }
    else { u with ppu := { p with fetchDot := true } }
  | .push =>
    if p.bgFifo.length ≤ 8 then
      { u with ppu := { p with
          bgFifo := p.bgFifo ++ tileEntries p
          fetchX := p.fetchX + 1
          fetchStep := .getTile } }
    else u

/-- A sprite is due at the current `lcdX` (R428). -/
def spriteDue (u : Units) (s : ScanEntry) : Bool :=
  let x := (oamByte u (4 * s.index + 1)).toNat
  !s.fetched && decide (0 < x ∧ x < 168 ∧ u.ppu.lcdX = x - 8)

/-- The first scan result that is due, and the results with it marked fetched (R428). -/
def triggerIn (u : Units) : List ScanEntry → Option (Nat × List ScanEntry)
  | [] => none
  | s :: rest =>
    if spriteDue u s then some (s.index, { s with fetched := true } :: rest)
    else (triggerIn u rest).map fun r => (r.1, s :: r.2)

/-- `SpriteTrigger()`: the state after a trigger, or none (R428). -/
def spriteTrigger (u : Units) : Option Units :=
  if lcdcBit u.ppu 1 then
    (triggerIn u u.ppu.scan).map fun r =>
      { u with ppu := { u.ppu with scan := r.2, pendingSprite := some r.1, stall := 5 } }
  else none

/-- The transparent entry that pads the Sprite FIFO (R430). -/
def blankEntry : FifoEntry := { colorIndex := 0#2, paletteBit := false, priorityBit := false }

/-- One sprite pixel merged at `slot`: the FIFO is padded up to it, and a transparent slot is filled (R430). -/
def mergePixel (fifo : List FifoEntry) (slot : Nat) (px : FifoEntry) : List FifoEntry :=
  let padded := fifo ++ List.replicate (slot + 1 - fifo.length) blankEntry
  if (padded.getD slot blankEntry).colorIndex = 0#2 then padded.set slot px else padded

/-- The sprite's row within its tile data, after Y flip (R430). -/
def spriteRow (u : Units) (i : Nat) : Nat :=
  let h := spriteHeight u.ppu
  let row := (u.timer.ly.toNat + 16 + 256 - (oamByte u (4 * i)).toNat) % h
  if (oamByte u (4 * i + 3)).getLsbD 6 then h - 1 - row else row

/-- The address of the sprite row's low bit plane (R430). -/
def spriteAddr (u : Units) (i : Nat) : Nat :=
  let t := (oamByte u (4 * i + 2)).toNat
  let t := if lcdcBit u.ppu 2 then t / 2 * 2 else t
  0x8000 + 16 * t + 2 * spriteRow u i

/-- The sprite's pixel in column j (R430). -/
def spritePixel (u : Units) (i j : Nat) : FifoEntry :=
  let attr := oamByte u (4 * i + 3)
  let b := if attr.getLsbD 5 then j else 7 - j
  let lo := vramByte u (spriteAddr u i)
  let hi := vramByte u (spriteAddr u i + 1)
  { colorIndex := colorOf (hi.getLsbD b) (lo.getLsbD b)
    paletteBit := attr.getLsbD 4
    priorityBit := attr.getLsbD 7 }

/-- `MergeSprite(i)` (R430): the columns from `skip` on, merged from the front of the Sprite FIFO. -/
def mergeSprite (i : Nat) (u : Units) : Units :=
  let skip := 8 - (oamByte u (4 * i + 1)).toNat
  let fifo := (List.range (8 - skip)).foldl (fun q k => mergePixel q k (spritePixel u i (skip + k))) u.ppu.spriteFifo
  { u with ppu := { u.ppu with spriteFifo := fifo } }

/-- The mixing rule (R431). -/
def spriteWins (bg : FifoEntry) : Option FifoEntry → Bool
  | none => false
  | some sp => decide (sp.colorIndex ≠ 0#2) && !(bg.priorityBit && sp.priorityBit)

/-- The shade of a colour index through a palette: bits 2c+1 to 2c (R444). -/
def shadeOf (palette : Byte) (ci : BitVec 2) : BitVec 2 := (palette >>> (2 * ci.toNat)).setWidth 2

/-- The shade of the mixed pixel (R432). -/
def mixedShade (p : Ppu) (bg : FifoEntry) (sp : Option FifoEntry) : BitVec 2 :=
  match sp with
  | some s =>
    if spriteWins bg (some s) then shadeOf (if s.paletteBit then p.obp1 else p.obp0) s.colorIndex
    else shadeOf p.bgp bg.colorIndex
  | none => shadeOf p.bgp bg.colorIndex

/-- One cell of the LCD buffer (R47). -/
def lcdCell (p : Ppu) (y x : Nat) : BitVec 2 := Sparse.read 0#2 p.lcd (160 * y + x)

/-- `OutputPixel()` (R432); with an empty BG FIFO, which R421 excludes, nothing (log entry 20). -/
def outputPixel (u : Units) : Units :=
  match u.ppu.bgFifo with
  | [] => u
  | bg :: rest =>
    let shade := mixedShade u.ppu bg u.ppu.spriteFifo.head?
    { u with ppu := { u.ppu with
        bgFifo := rest
        spriteFifo := u.ppu.spriteFifo.tail
        lcd := if u.ppu.blankFrame then u.ppu.lcd
          else Sparse.write 0#2 u.ppu.lcd (160 * u.timer.ly.toNat + u.ppu.lcdX) shade
        lcdX := u.ppu.lcdX + 1 } }

/-- A tick of a running sprite fetch: the first branch of `DrawTick()` (R421). -/
def stallTick (u : Units) : Units :=
  let v := { u with ppu := { u.ppu with stall := u.ppu.stall - 1 } }
  if v.ppu.stall = 0 then
    match v.ppu.pendingSprite with
    | some i =>
      let w := mergeSprite i v
      { w with ppu := { w.ppu with pendingSprite := none } }
    | none => v
  else v

/-- What follows the fetcher's step in `DrawTick()` (R421). -/
def drawPixel (u : Units) : Units :=
  match u.ppu.bgFifo with
  | [] => u
  | _ :: rest =>
    if 0 < u.ppu.discard then
      { u with ppu := { u.ppu with bgFifo := rest, discard := u.ppu.discard - 1 } }
    else
      match spriteTrigger u with
      | some v => v
      | none => outputPixel u

/-- `DrawTick()` (R421). -/
def drawTick (u : Units) : Units :=
  if 0 < u.ppu.stall then stallTick u else drawPixel (fetcherStep u)

/-- The mode controller: the first part of `PixelTick()` (R411). -/
def modeStep (u : Units) : Units :=
  let dot := u.cycles % lineCycles
  let ly := u.timer.ly.toNat
  if dot = 0 then
    let u := if ly = 0 then frameStart u else u
    if ly < 144 then enterMode2 u else if ly = 144 then enterMode1 u else u
  else if dot = 80 ∧ ly < 144 then enterMode3 u
  else u

/-- A disabled LCD marks the frame blank (R411, R434). -/
def blankStep (u : Units) : Units :=
  if lcdcBit u.ppu 7 then u else { u with ppu := { u.ppu with blankFrame := true } }

/-- The drawing part of `PixelTick()` (R411). -/
def drawStep (u : Units) : Units :=
  if u.ppu.mode = .draw then (if u.ppu.lcdX = 160 then enterMode0 u else drawTick u) else u

/-- `PixelTick()` (R411). -/
def pixelTick (u : Units) : Units := drawStep (blankStep (modeStep u))

/-- The first two parts of `Tick()`: the cycle counter and `frameDone` (R73). -/
def advanceCycle (u : Units) : Units :=
  let c := (u.cycles + 1) % frameCycles
  { u with cycles := c, frameDone := u.frameDone || decide (c = 0) }

/-- `Tick()`, one T-state (R73). -/
def tick (u : Units) : Units := pixelTick (timerTick (advanceCycle u))

/-- `n` ticks. -/
def ticks : Nat → Units → Units
  | 0, u => u
  | n + 1, u => ticks n (tick u)

end Sys2Proof.Machine
end

