-- ==== Sys2Proof/Machine/Bus.lean ====
section
/-! DEFINITION. The memory bus: the address decoder (R72), the transfer part of a read and of a write in every region
(R78 to R89), the I/O registers (R91, R92), the cartridge capability (R11) and the joypad nibble (R366). The ticks of an
access are in Ops.lean. -/

namespace Sys2Proof.Machine

/-- The twelve regions (R71). -/
inductive Region where
  | bootOverlay | rom0 | rom1 | vram | extRam | wram | echo | oam | unusable | io | hram | ie
deriving DecidableEq, Repr

/-- `Region(addr, BANK)` (R72). -/
def region (addr : Nat) (bank : Byte) : Region :=
  if addr ≤ 0x00FF ∧ bank = 0x00#8 then .bootOverlay
  else if addr ≤ 0x3FFF then .rom0
  else if addr ≤ 0x7FFF then .rom1
  else if addr ≤ 0x9FFF then .vram
  else if addr ≤ 0xBFFF then .extRam
  else if addr ≤ 0xDFFF then .wram
  else if addr ≤ 0xFDFF then .echo
  else if addr ≤ 0xFE9F then .oam
  else if addr ≤ 0xFEFF then .unusable
  else if addr ≤ 0xFF7F then .io
  else if addr ≤ 0xFFFE then .hram
  else .ie

/-- The key in `Bus.mem` of the internal memory byte that bus address `addr` reaches, if it reaches one: VRAM, WRAM, OAM
and HRAM under their own address, the echo under the WRAM address 0x2000 below (R81, R83, R84, R85, R88). -/
def ramKey (addr : Nat) : Option Nat :=
  if addr < 0x8000 then none
  else if addr ≤ 0x9FFF then some addr
  else if addr < 0xC000 then none
  else if addr ≤ 0xDFFF then some addr
  else if addr ≤ 0xFDFF then some (addr - 0x2000)
  else if addr ≤ 0xFE9F then some addr
  else if addr < 0xFF80 then none
  else if addr ≤ 0xFFFE then some addr
  else none

/-- Every entry lies in one of the four internal memories. -/
def Memory.inRam (m : Memory) : Bool := m.all fun cell => decide (ramKey cell.1 = some cell.1)

/-- The I/O register at an address of the register file, by the table of R91. -/
def ioRegAt (addr : Nat) : Option IoReg :=
  match addr with
  | 0xFF00 => some .joyp
  | 0xFF04 => some .div
  | 0xFF05 => some .tima
  | 0xFF06 => some .tma
  | 0xFF07 => some .tac
  | 0xFF0F => some .intFlag
  | 0xFF40 => some .lcdc
  | 0xFF41 => some .stat
  | 0xFF42 => some .scy
  | 0xFF43 => some .scx
  | 0xFF44 => some .ly
  | 0xFF45 => some .lyc
  | 0xFF47 => some .bgp
  | 0xFF48 => some .obp0
  | 0xFF49 => some .obp1
  | 0xFF50 => some .bank
  | _ => none

/-- The implemented register at `addr`: `IoImplemented(addr)` holds (R55, log entry 14). -/
def implementedAt (cfg : Config) (addr : Nat) : Option IoReg :=
  match ioRegAt addr with
  | some r => if cfg.ioImplemented.contains r then some r else none
  | none => none

/-- `JoypNibble(L, sel)`, pressed = 0 (R366). -/
def joypNibble (latch : InputLatch) (sel : BitVec 2) : BitVec 4 :=
  let dir := !sel.getLsbD 0
  let act := !sel.getLsbD 1
  let line (dirKey actKey : Bool) : Bool := !((dir && dirKey) || (act && actKey))
  BitVec.ofBool (line latch.down latch.start) ++ BitVec.ofBool (line latch.up latch.select)
    ++ BitVec.ofBool (line latch.left latch.b) ++ BitVec.ofBool (line latch.right latch.a)

/-- The number of a mode in STAT bits 1 to 0 (R45). -/
def PpuMode.number : PpuMode → BitVec 2
  | .hblank => 0#2
  | .vblank => 1#2
  | .oamScan => 2#2
  | .draw => 3#2

/-- What a read of an implemented I/O register returns (R91, R34, R37, R366, R441). -/
def ioRead (latch : InputLatch) (u : Units) : IoReg → Byte
  | .joyp => 0b11#2 ++ u.bus.joypSelect ++ joypNibble latch u.bus.joypSelect
  | .div => u.timer.div
  | .tima => u.timer.tima
  | .tma => u.timer.tma
  | .tac => 0b11111#5 ++ u.timer.tac
  | .intFlag => 0b111#3 ++ u.timer.intFlag
  | .lcdc => u.ppu.lcdc
  | .stat => 1#1 ++ u.ppu.statEnable ++ BitVec.ofBool (decide (u.timer.ly = u.timer.lyc)) ++ u.ppu.mode.number
  | .scy => u.ppu.scy
  | .scx => u.ppu.scx
  | .ly => u.timer.ly
  | .lyc => u.timer.lyc
  | .bgp => u.ppu.bgp
  | .obp0 => u.ppu.obp0
  | .obp1 => u.ppu.obp1
  | .bank => u.bus.bank

/-- What a write of `v` to an implemented I/O register does (R91, R384, R387, R391). -/
def ioWrite (v : Byte) (u : Units) : IoReg → Units
  | .joyp => { u with bus := { u.bus with joypSelect := v.extractLsb' 4 2 } }
  | .div => { u with timer := { u.timer with div := 0#8 } }
  | .tima => { u with timer := { u.timer with tima := v } }
  | .tma => { u with timer := { u.timer with tma := v } }
  | .tac => writeTAC v u
  | .intFlag => { u with timer := { u.timer with intFlag := v.setWidth 5 } }
  | .lcdc => { u with ppu := { u.ppu with lcdc := v } }
  | .stat => { u with ppu := { u.ppu with statEnable := v.extractLsb' 3 4 } }
  | .scy => { u with ppu := { u.ppu with scy := v } }
  | .scx => { u with ppu := { u.ppu with scx := v } }
  | .ly => u
  | .lyc => { u with timer := { u.timer with lyc := v } }
  | .bgp => { u with ppu := { u.ppu with bgp := v } }
  | .obp0 => { u with ppu := { u.ppu with obp0 := v } }
  | .obp1 => { u with ppu := { u.ppu with obp1 := v } }
  | .bank => if u.bus.bank = 0#8 then { u with bus := { u.bus with bank := v } } else u

/-- `CartRead(region, offset)`; 0xFF with no cartridge present (R9, R11). The minimal cartridge has ROM0 and ROM1, two
fixed banks of its image. -/
def cartRead (cfg : Config) (cart : List CartWrite) (r : CartRegion) (offset : Nat) : Byte :=
  match cfg.rom with
  | none => 0xFF#8
  | some image =>
    match cfg.cartridge, r with
    | .minimal, .rom0 => Memory.read image offset
    | .minimal, .rom1 => Memory.read image (16384 + offset)
    | .minimal, .extRam => 0xFF#8
    | .other, r => Config.cartRead image cart r offset

/-- The cartridge is present and has enabled external RAM, which the minimal one never has (R11, R82). -/
def extRamEnabled (cfg : Config) (cart : List CartWrite) : Bool :=
  match cfg.rom, cfg.cartridge with
  | some image, .other => Config.extRamEnabled image cart
  | some _, .minimal => false
  | none, _ => false

/-- `CartWrite(addr, v)`: dropped with no cartridge, without effect on the minimal one, taken by any other (R11, R79). -/
def cartWrite (cfg : Config) (addr : Word) (v : Byte) (cart : List CartWrite) : List CartWrite :=
  match cfg.rom, cfg.cartridge with
  | some _, .other => { addr := addr, value := v } :: cart
  | some _, .minimal => cart
  | none, _ => cart

/-- The boot overlay's read (R78). BANK is never 0 without a boot image (R42); the byte given then is log entry 17's. -/
def bootRead (cfg : Config) (offset : Nat) : Byte :=
  match cfg.boot with
  | some image => Memory.read image offset
  | none => 0xFF#8

/-- The transfer of a bus read at the present moment (R74, R78 to R89). -/
def busRead (cfg : Config) (latch : InputLatch) (u : Units) (addr : Word) : Byte :=
  let a := addr.toNat
  match region a u.bus.bank with
  | .bootOverlay => bootRead cfg a
  | .rom0 => cartRead cfg u.bus.cart .rom0 a
  | .rom1 => cartRead cfg u.bus.cart .rom1 (a - 0x4000)
  | .vram => if u.bus.vramBlocked then 0xFF#8 else Memory.read u.bus.mem a
  | .extRam => if extRamEnabled cfg u.bus.cart then cartRead cfg u.bus.cart .extRam (a - 0xA000) else 0xFF#8
  | .wram => Memory.read u.bus.mem a
  | .echo => Memory.read u.bus.mem (a - 0x2000)
  | .oam => if u.bus.oamBlocked then 0xFF#8 else Memory.read u.bus.mem a
  | .unusable => if u.bus.oamBlocked then 0xFF#8 else 0x00#8
  | .io =>
    match implementedAt cfg a with
    | some r => ioRead latch u r
    | none => 0xFF#8
  | .hram => Memory.read u.bus.mem a
  | .ie => u.timer.intEnable

/-- One byte of an internal memory stored. -/
def storeRam (key : Nat) (v : Byte) (u : Units) : Units :=
  { u with bus := { u.bus with mem := Memory.write u.bus.mem key v } }

/-- `CartWrite(addr, v)` on the bus (R78, R79, R80, R82). -/
def storeCart (cfg : Config) (addr : Word) (v : Byte) (u : Units) : Units :=
  { u with bus := { u.bus with cart := cartWrite cfg addr v u.bus.cart } }

/-- The transfer of a bus write at the present moment (R75, R78 to R89): a write to the overlay range, to ROM or to
enabled external RAM goes to the cartridge. -/
def busWrite (cfg : Config) (addr : Word) (v : Byte) (u : Units) : Units :=
  let a := addr.toNat
  match region a u.bus.bank with
  | .bootOverlay => storeCart cfg addr v u
  | .rom0 => storeCart cfg addr v u
  | .rom1 => storeCart cfg addr v u
  | .vram => if u.bus.vramBlocked then u else storeRam a v u
  | .extRam => if extRamEnabled cfg u.bus.cart then storeCart cfg addr v u else u
  | .wram => storeRam a v u
  | .echo => storeRam (a - 0x2000) v u
  | .oam => if u.bus.oamBlocked then u else storeRam a v u
  | .unusable => u
  | .io =>
    match implementedAt cfg a with
    | some r => ioWrite v u r
    | none => u
  | .hram => storeRam a v u
  | .ie => { u with timer := { u.timer with intEnable := v } }

end Sys2Proof.Machine
end

