-- ==== Sys2Proof/Form.lean ====
section
/-! DEFINITION. The field-wise view of an instruction: the operand tables of R17 and R123 as closed types, and `Form`,
one constructor per instruction RULE (R151 to R329) with its operands as fields. `Instr` (Syntax.lean) has one
constructor per row of the opcode table; `Instr.form` and `Form.instr` (Decode.lean) translate between the two. -/

namespace Sys2Proof

/-- The seven 8-bit register operands `r8[i]`, i != 6 (R123). -/
inductive Reg8 where
  | b | c | d | e | h | l | a
deriving DecidableEq, Repr

/-- The pair operands `r16[p]` (R123). -/
inductive Pair where
  | bc | de | hl | sp
deriving DecidableEq, Repr

/-- The pair operands `r16stk[p]` of PUSH and POP (R123). -/
inductive StkPair where
  | bc | de | hl | af
deriving DecidableEq, Repr

/-- The conditions `cc[c]` (R123). -/
inductive Cond where
  | nz | z | nc | c
deriving DecidableEq, Repr

/-- The ALU operations `alu[y]` (R123). -/
inductive AluOp where
  | add | adc | sub | sbc | and | xor | or | cp
deriving DecidableEq, Repr

/-- The CB-page rotates and shifts, by `y` (R122). -/
inductive ShiftOp where
  | rlc | rrc | rl | rr | sla | sra | swap | srl
deriving DecidableEq, Repr

/-- The 8-bit operand selected by a three-bit field: a register, or (field value 6) the byte at HL (R123). -/
inductive Operand8 where
  | reg (r : Reg8)
  | atHL
deriving DecidableEq, Repr

/-- One instruction by its rule: the constructor names the rule, the arguments are its operands. -/
inductive Form where
  /-- `LD r,r'` (R151). -/
  | ldRegReg (dst src : Reg8)
  /-- `LD r,d8` (R152). -/
  | ldRegImm (dst : Reg8) (n : Byte)
  /-- `LD r,(HL)` (R153). -/
  | ldRegHL (dst : Reg8)
  /-- `LD (HL),r` (R154). -/
  | ldHLReg (src : Reg8)
  /-- `LD (HL),d8` (R155). -/
  | ldHLImm (n : Byte)
  /-- `LD A,(BC)` (R156). -/
  | ldABC
  /-- `LD A,(DE)` (R157). -/
  | ldADE
  /-- `LD (BC),A` (R158). -/
  | ldBCA
  /-- `LD (DE),A` (R159). -/
  | ldDEA
  /-- `LD A,(a16)` (R160). -/
  | ldAAbs (addr : Word)
  /-- `LD (a16),A` (R161). -/
  | ldAbsA (addr : Word)
  /-- `LDH A,(a8)` (R162). -/
  | ldhAImm (n : Byte)
  /-- `LDH (a8),A` (R163). -/
  | ldhImmA (n : Byte)
  /-- `LD A,(C)` (R164). -/
  | ldhAC
  /-- `LD (C),A` (R165). -/
  | ldhCA
  /-- `LD (HL+),A` (R166). -/
  | ldIncA
  /-- `LD (HL-),A` (R167). -/
  | ldDecA
  /-- `LD A,(HL+)` (R168). -/
  | ldAInc
  /-- `LD A,(HL-)` (R169). -/
  | ldADec
  /-- `LD rr,d16` (R191). -/
  | ldPairImm (dst : Pair) (nn : Word)
  /-- `LD (a16),SP` (R192). -/
  | ldAbsSP (addr : Word)
  /-- `LD SP,HL` (R193). -/
  | ldSPHL
  /-- `LD HL,SP+e8` (R194). -/
  | ldHLSPe (e : Byte)
  /-- `PUSH rr` (R195). -/
  | push (src : StkPair)
  /-- `POP rr` (R196), `POP AF` (R197). -/
  | pop (dst : StkPair)
  /-- The eight two-operand ALU operations on a register (R213, R216, R219, R222, R225, R228, R231, R234). -/
  | aluReg (op : AluOp) (src : Reg8)
  /-- The same on the byte at HL (R214, R217, R220, R223, R226, R229, R232, R235). -/
  | aluHL (op : AluOp)
  /-- The same on an immediate (R215, R218, R221, R224, R227, R230, R233, R236). -/
  | aluImm (op : AluOp) (n : Byte)
  /-- `INC r` (R237). -/
  | incReg (r : Reg8)
  /-- `INC (HL)` (R238). -/
  | incHL
  /-- `DEC r` (R239). -/
  | decReg (r : Reg8)
  /-- `DEC (HL)` (R240). -/
  | decHL
  /-- `DAA` (R241). -/
  | daa
  /-- `CPL` (R242). -/
  | cpl
  /-- `SCF` (R243). -/
  | scf
  /-- `CCF` (R244). -/
  | ccf
  /-- `ADD HL,rr` (R251). -/
  | addHL (src : Pair)
  /-- `INC rr` (R252). -/
  | incPair (r : Pair)
  /-- `DEC rr` (R253). -/
  | decPair (r : Pair)
  /-- `ADD SP,e8` (R254). -/
  | addSPe (e : Byte)
  /-- `RLCA` (R261). -/
  | rlca
  /-- `RLA` (R262). -/
  | rla
  /-- `RRCA` (R263). -/
  | rrca
  /-- `RRA` (R264). -/
  | rra
  /-- The CB-page rotates and shifts on a register (R265, R267, R269, R271, R273, R275, R277, R279). -/
  | shiftReg (op : ShiftOp) (r : Reg8)
  /-- The same on the byte at HL (R266, R268, R270, R272, R274, R276, R278, R280). -/
  | shiftHL (op : ShiftOp)
  /-- `BIT b,r` (R281). -/
  | bitReg (b : Fin 8) (r : Reg8)
  /-- `BIT b,(HL)` (R282). -/
  | bitHL (b : Fin 8)
  /-- `RES b,r` (R283). -/
  | resReg (b : Fin 8) (r : Reg8)
  /-- `RES b,(HL)` (R284). -/
  | resHL (b : Fin 8)
  /-- `SET b,r` (R285). -/
  | setReg (b : Fin 8) (r : Reg8)
  /-- `SET b,(HL)` (R286). -/
  | setHL (b : Fin 8)
  /-- `JP a16` (R291). -/
  | jp (addr : Word)
  /-- `JP cc,a16` (R292). -/
  | jpCond (cc : Cond) (addr : Word)
  /-- `JP HL` (R293). -/
  | jpHL
  /-- `JR e8` (R294). -/
  | jr (e : Byte)
  /-- `JR cc,e8` (R295). -/
  | jrCond (cc : Cond) (e : Byte)
  /-- `CALL a16` (R296). -/
  | call (addr : Word)
  /-- `CALL cc,a16` (R297). -/
  | callCond (cc : Cond) (addr : Word)
  /-- `RET` (R298). -/
  | ret
  /-- `RET cc` (R299). -/
  | retCond (cc : Cond)
  /-- `RETI` (R300). -/
  | reti
  /-- `RST t`, t = 8 * y (R305). -/
  | rst (y : Fin 8)
  /-- `NOP` (R322). -/
  | nop
  /-- `HALT` (R323). -/
  | halt
  /-- `STOP` with its pad byte (R324). -/
  | stop (pad : Byte)
  /-- `DI` (R327). -/
  | di
  /-- `EI` (R328). -/
  | ei
  /-- One of the eleven undefined opcodes (R329); `code` is the opcode byte. -/
  | undefined (code : Byte)
deriving DecidableEq, Repr

end Sys2Proof
end

