-- ==== Sys2Proof/Decode.lean ====
section
/-! DEFINITION. The decoder, by the fields of R121 to R127, total on any bytes; and after it the encoder, written from
the opcode bytes of spec/opcode_table.json. `decodeWith` decodes by a given dispatch table (R8). `Instr.form` and `Form.instr` translate between an instruction and its rule
with operands. -/

namespace Sys2Proof

/-! ## Byte order and operand fields -/

/-- `hi:lo`, the 16-bit value of two bytes (R16, R124). -/
def hiLo (hi lo : Byte) : Word := hi ++ lo

/-- Bits 15 to 8 of a word (R16). -/
def highByte (v : Word) : Byte := v.extractLsb' 8 8

/-- Bits 7 to 0 of a word (R16). -/
def lowByte (v : Word) : Byte := v.extractLsb' 0 8

/-- `r8[i]` (R123). -/
def operand8 : Nat → Operand8
  | 0 => .reg .b
  | 1 => .reg .c
  | 2 => .reg .d
  | 3 => .reg .e
  | 4 => .reg .h
  | 5 => .reg .l
  | 6 => .atHL
  | _ => .reg .a

/-- `r16[p]` (R123). -/
def pairOf : Nat → Pair
  | 0 => .bc
  | 1 => .de
  | 2 => .hl
  | _ => .sp

/-- `r16stk[p]` (R123). -/
def stkPairOf : Nat → StkPair
  | 0 => .bc
  | 1 => .de
  | 2 => .hl
  | _ => .af

/-- `cc[c]` (R123). -/
def condOf : Nat → Cond
  | 0 => .nz
  | 1 => .z
  | 2 => .nc
  | _ => .c

/-- `alu[y]` (R123). -/
def aluOf : Nat → AluOp
  | 0 => .add
  | 1 => .adc
  | 2 => .sub
  | 3 => .sbc
  | 4 => .and
  | 5 => .xor
  | 6 => .or
  | _ => .cp

/-- The rotate or shift of a CB-page byte with x = 0, by `y` (R122). -/
def shiftOf : Nat → ShiftOp
  | 0 => .rlc
  | 1 => .rrc
  | 2 => .rl
  | 3 => .rr
  | 4 => .sla
  | 5 => .sra
  | 6 => .swap
  | _ => .srl

/-- Field x, bits 7 to 6 of an opcode byte (R121). -/
def fieldX (op : Byte) : Nat := op.toNat / 64

/-- Field y, bits 5 to 3 (R121). -/
def fieldY (op : Byte) : Nat := op.toNat / 8 % 8

/-- Field z, bits 2 to 0 (R121). -/
def fieldZ (op : Byte) : Nat := op.toNat % 8

/-- Field p, bits 5 to 4 (R121). -/
def fieldP (op : Byte) : Nat := op.toNat / 16 % 4

/-- Field q, bit 3 (R121). -/
def fieldQ (op : Byte) : Nat := op.toNat / 8 % 2

/-- A three-bit field as a bit number or a restart number. -/
def field3 (n : Nat) : Fin 8 := Fin.ofNat 8 n

/-! ## Instructions and forms -/

/-- The rule and operands of an instruction. -/
def Instr.form : Instr → Form
  | .nop => .nop
  | .ld_BC_d16 nn => .ldPairImm .bc nn
  | .ld_atBC_A => .ldBCA
  | .inc_BC => .incPair .bc
  | .inc_B => .incReg .b
  | .dec_B => .decReg .b
  | .ld_B_d8 n => .ldRegImm .b n
  | .rlca => .rlca
  | .ld_atA16_SP addr => .ldAbsSP addr
  | .add_HL_BC => .addHL .bc
  | .ld_A_atBC => .ldABC
  | .dec_BC => .decPair .bc
  | .inc_C => .incReg .c
  | .dec_C => .decReg .c
  | .ld_C_d8 n => .ldRegImm .c n
  | .rrca => .rrca
  | .stop pad => .stop pad
  | .ld_DE_d16 nn => .ldPairImm .de nn
  | .ld_atDE_A => .ldDEA
  | .inc_DE => .incPair .de
  | .inc_D => .incReg .d
  | .dec_D => .decReg .d
  | .ld_D_d8 n => .ldRegImm .d n
  | .rla => .rla
  | .jr_e8 e => .jr e
  | .add_HL_DE => .addHL .de
  | .ld_A_atDE => .ldADE
  | .dec_DE => .decPair .de
  | .inc_E => .incReg .e
  | .dec_E => .decReg .e
  | .ld_E_d8 n => .ldRegImm .e n
  | .rra => .rra
  | .jr_NZ_e8 e => .jrCond .nz e
  | .ld_HL_d16 nn => .ldPairImm .hl nn
  | .ld_atHLI_A => .ldIncA
  | .inc_HL => .incPair .hl
  | .inc_H => .incReg .h
  | .dec_H => .decReg .h
  | .ld_H_d8 n => .ldRegImm .h n
  | .daa => .daa
  | .jr_Z_e8 e => .jrCond .z e
  | .add_HL_HL => .addHL .hl
  | .ld_A_atHLI => .ldAInc
  | .dec_HL => .decPair .hl
  | .inc_L => .incReg .l
  | .dec_L => .decReg .l
  | .ld_L_d8 n => .ldRegImm .l n
  | .cpl => .cpl
  | .jr_NC_e8 e => .jrCond .nc e
  | .ld_SP_d16 nn => .ldPairImm .sp nn
  | .ld_atHLD_A => .ldDecA
  | .inc_SP => .incPair .sp
  | .inc_atHL => .incHL
  | .dec_atHL => .decHL
  | .ld_atHL_d8 n => .ldHLImm n
  | .scf => .scf
  | .jr_C_e8 e => .jrCond .c e
  | .add_HL_SP => .addHL .sp
  | .ld_A_atHLD => .ldADec
  | .dec_SP => .decPair .sp
  | .inc_A => .incReg .a
  | .dec_A => .decReg .a
  | .ld_A_d8 n => .ldRegImm .a n
  | .ccf => .ccf
  | .ld_B_B => .ldRegReg .b .b
  | .ld_B_C => .ldRegReg .b .c
  | .ld_B_D => .ldRegReg .b .d
  | .ld_B_E => .ldRegReg .b .e
  | .ld_B_H => .ldRegReg .b .h
  | .ld_B_L => .ldRegReg .b .l
  | .ld_B_atHL => .ldRegHL .b
  | .ld_B_A => .ldRegReg .b .a
  | .ld_C_B => .ldRegReg .c .b
  | .ld_C_C => .ldRegReg .c .c
  | .ld_C_D => .ldRegReg .c .d
  | .ld_C_E => .ldRegReg .c .e
  | .ld_C_H => .ldRegReg .c .h
  | .ld_C_L => .ldRegReg .c .l
  | .ld_C_atHL => .ldRegHL .c
  | .ld_C_A => .ldRegReg .c .a
  | .ld_D_B => .ldRegReg .d .b
  | .ld_D_C => .ldRegReg .d .c
  | .ld_D_D => .ldRegReg .d .d
  | .ld_D_E => .ldRegReg .d .e
  | .ld_D_H => .ldRegReg .d .h
  | .ld_D_L => .ldRegReg .d .l
  | .ld_D_atHL => .ldRegHL .d
  | .ld_D_A => .ldRegReg .d .a
  | .ld_E_B => .ldRegReg .e .b
  | .ld_E_C => .ldRegReg .e .c
  | .ld_E_D => .ldRegReg .e .d
  | .ld_E_E => .ldRegReg .e .e
  | .ld_E_H => .ldRegReg .e .h
  | .ld_E_L => .ldRegReg .e .l
  | .ld_E_atHL => .ldRegHL .e
  | .ld_E_A => .ldRegReg .e .a
  | .ld_H_B => .ldRegReg .h .b
  | .ld_H_C => .ldRegReg .h .c
  | .ld_H_D => .ldRegReg .h .d
  | .ld_H_E => .ldRegReg .h .e
  | .ld_H_H => .ldRegReg .h .h
  | .ld_H_L => .ldRegReg .h .l
  | .ld_H_atHL => .ldRegHL .h
  | .ld_H_A => .ldRegReg .h .a
  | .ld_L_B => .ldRegReg .l .b
  | .ld_L_C => .ldRegReg .l .c
  | .ld_L_D => .ldRegReg .l .d
  | .ld_L_E => .ldRegReg .l .e
  | .ld_L_H => .ldRegReg .l .h
  | .ld_L_L => .ldRegReg .l .l
  | .ld_L_atHL => .ldRegHL .l
  | .ld_L_A => .ldRegReg .l .a
  | .ld_atHL_B => .ldHLReg .b
  | .ld_atHL_C => .ldHLReg .c
  | .ld_atHL_D => .ldHLReg .d
  | .ld_atHL_E => .ldHLReg .e
  | .ld_atHL_H => .ldHLReg .h
  | .ld_atHL_L => .ldHLReg .l
  | .halt => .halt
  | .ld_atHL_A => .ldHLReg .a
  | .ld_A_B => .ldRegReg .a .b
  | .ld_A_C => .ldRegReg .a .c
  | .ld_A_D => .ldRegReg .a .d
  | .ld_A_E => .ldRegReg .a .e
  | .ld_A_H => .ldRegReg .a .h
  | .ld_A_L => .ldRegReg .a .l
  | .ld_A_atHL => .ldRegHL .a
  | .ld_A_A => .ldRegReg .a .a
  | .add_A_B => .aluReg .add .b
  | .add_A_C => .aluReg .add .c
  | .add_A_D => .aluReg .add .d
  | .add_A_E => .aluReg .add .e
  | .add_A_H => .aluReg .add .h
  | .add_A_L => .aluReg .add .l
  | .add_A_atHL => .aluHL .add
  | .add_A_A => .aluReg .add .a
  | .adc_A_B => .aluReg .adc .b
  | .adc_A_C => .aluReg .adc .c
  | .adc_A_D => .aluReg .adc .d
  | .adc_A_E => .aluReg .adc .e
  | .adc_A_H => .aluReg .adc .h
  | .adc_A_L => .aluReg .adc .l
  | .adc_A_atHL => .aluHL .adc
  | .adc_A_A => .aluReg .adc .a
  | .sub_B => .aluReg .sub .b
  | .sub_C => .aluReg .sub .c
  | .sub_D => .aluReg .sub .d
  | .sub_E => .aluReg .sub .e
  | .sub_H => .aluReg .sub .h
  | .sub_L => .aluReg .sub .l
  | .sub_atHL => .aluHL .sub
  | .sub_A => .aluReg .sub .a
  | .sbc_A_B => .aluReg .sbc .b
  | .sbc_A_C => .aluReg .sbc .c
  | .sbc_A_D => .aluReg .sbc .d
  | .sbc_A_E => .aluReg .sbc .e
  | .sbc_A_H => .aluReg .sbc .h
  | .sbc_A_L => .aluReg .sbc .l
  | .sbc_A_atHL => .aluHL .sbc
  | .sbc_A_A => .aluReg .sbc .a
  | .and_B => .aluReg .and .b
  | .and_C => .aluReg .and .c
  | .and_D => .aluReg .and .d
  | .and_E => .aluReg .and .e
  | .and_H => .aluReg .and .h
  | .and_L => .aluReg .and .l
  | .and_atHL => .aluHL .and
  | .and_A => .aluReg .and .a
  | .xor_B => .aluReg .xor .b
  | .xor_C => .aluReg .xor .c
  | .xor_D => .aluReg .xor .d
  | .xor_E => .aluReg .xor .e
  | .xor_H => .aluReg .xor .h
  | .xor_L => .aluReg .xor .l
  | .xor_atHL => .aluHL .xor
  | .xor_A => .aluReg .xor .a
  | .or_B => .aluReg .or .b
  | .or_C => .aluReg .or .c
  | .or_D => .aluReg .or .d
  | .or_E => .aluReg .or .e
  | .or_H => .aluReg .or .h
  | .or_L => .aluReg .or .l
  | .or_atHL => .aluHL .or
  | .or_A => .aluReg .or .a
  | .cp_B => .aluReg .cp .b
  | .cp_C => .aluReg .cp .c
  | .cp_D => .aluReg .cp .d
  | .cp_E => .aluReg .cp .e
  | .cp_H => .aluReg .cp .h
  | .cp_L => .aluReg .cp .l
  | .cp_atHL => .aluHL .cp
  | .cp_A => .aluReg .cp .a
  | .ret_NZ => .retCond .nz
  | .pop_BC => .pop .bc
  | .jp_NZ_a16 addr => .jpCond .nz addr
  | .jp_a16 addr => .jp addr
  | .call_NZ_a16 addr => .callCond .nz addr
  | .push_BC => .push .bc
  | .add_A_d8 n => .aluImm .add n
  | .rst_00 => .rst 0
  | .ret_Z => .retCond .z
  | .ret => .ret
  | .jp_Z_a16 addr => .jpCond .z addr
  | .call_Z_a16 addr => .callCond .z addr
  | .call_a16 addr => .call addr
  | .adc_A_d8 n => .aluImm .adc n
  | .rst_08 => .rst 1
  | .ret_NC => .retCond .nc
  | .pop_DE => .pop .de
  | .jp_NC_a16 addr => .jpCond .nc addr
  | .undefined code => .undefined code
  | .call_NC_a16 addr => .callCond .nc addr
  | .push_DE => .push .de
  | .sub_d8 n => .aluImm .sub n
  | .rst_10 => .rst 2
  | .ret_C => .retCond .c
  | .reti => .reti
  | .jp_C_a16 addr => .jpCond .c addr
  | .call_C_a16 addr => .callCond .c addr
  | .sbc_A_d8 n => .aluImm .sbc n
  | .rst_18 => .rst 3
  | .ldh_atA8_A n => .ldhImmA n
  | .pop_HL => .pop .hl
  | .ld_atC_A => .ldhCA
  | .push_HL => .push .hl
  | .and_d8 n => .aluImm .and n
  | .rst_20 => .rst 4
  | .add_SP_e8 e => .addSPe e
  | .jp_HL => .jpHL
  | .ld_atA16_A addr => .ldAbsA addr
  | .xor_d8 n => .aluImm .xor n
  | .rst_28 => .rst 5
  | .ldh_A_atA8 n => .ldhAImm n
  | .pop_AF => .pop .af
  | .ld_A_atC => .ldhAC
  | .di => .di
  | .push_AF => .push .af
  | .or_d8 n => .aluImm .or n
  | .rst_30 => .rst 6
  | .ld_HL_SPe8 e => .ldHLSPe e
  | .ld_SP_HL => .ldSPHL
  | .ld_A_atA16 addr => .ldAAbs addr
  | .ei => .ei
  | .cp_d8 n => .aluImm .cp n
  | .rst_38 => .rst 7
  | .rlc_B => .shiftReg .rlc .b
  | .rlc_C => .shiftReg .rlc .c
  | .rlc_D => .shiftReg .rlc .d
  | .rlc_E => .shiftReg .rlc .e
  | .rlc_H => .shiftReg .rlc .h
  | .rlc_L => .shiftReg .rlc .l
  | .rlc_atHL => .shiftHL .rlc
  | .rlc_A => .shiftReg .rlc .a
  | .rrc_B => .shiftReg .rrc .b
  | .rrc_C => .shiftReg .rrc .c
  | .rrc_D => .shiftReg .rrc .d
  | .rrc_E => .shiftReg .rrc .e
  | .rrc_H => .shiftReg .rrc .h
  | .rrc_L => .shiftReg .rrc .l
  | .rrc_atHL => .shiftHL .rrc
  | .rrc_A => .shiftReg .rrc .a
  | .rl_B => .shiftReg .rl .b
  | .rl_C => .shiftReg .rl .c
  | .rl_D => .shiftReg .rl .d
  | .rl_E => .shiftReg .rl .e
  | .rl_H => .shiftReg .rl .h
  | .rl_L => .shiftReg .rl .l
  | .rl_atHL => .shiftHL .rl
  | .rl_A => .shiftReg .rl .a
  | .rr_B => .shiftReg .rr .b
  | .rr_C => .shiftReg .rr .c
  | .rr_D => .shiftReg .rr .d
  | .rr_E => .shiftReg .rr .e
  | .rr_H => .shiftReg .rr .h
  | .rr_L => .shiftReg .rr .l
  | .rr_atHL => .shiftHL .rr
  | .rr_A => .shiftReg .rr .a
  | .sla_B => .shiftReg .sla .b
  | .sla_C => .shiftReg .sla .c
  | .sla_D => .shiftReg .sla .d
  | .sla_E => .shiftReg .sla .e
  | .sla_H => .shiftReg .sla .h
  | .sla_L => .shiftReg .sla .l
  | .sla_atHL => .shiftHL .sla
  | .sla_A => .shiftReg .sla .a
  | .sra_B => .shiftReg .sra .b
  | .sra_C => .shiftReg .sra .c
  | .sra_D => .shiftReg .sra .d
  | .sra_E => .shiftReg .sra .e
  | .sra_H => .shiftReg .sra .h
  | .sra_L => .shiftReg .sra .l
  | .sra_atHL => .shiftHL .sra
  | .sra_A => .shiftReg .sra .a
  | .swap_B => .shiftReg .swap .b
  | .swap_C => .shiftReg .swap .c
  | .swap_D => .shiftReg .swap .d
  | .swap_E => .shiftReg .swap .e
  | .swap_H => .shiftReg .swap .h
  | .swap_L => .shiftReg .swap .l
  | .swap_atHL => .shiftHL .swap
  | .swap_A => .shiftReg .swap .a
  | .srl_B => .shiftReg .srl .b
  | .srl_C => .shiftReg .srl .c
  | .srl_D => .shiftReg .srl .d
  | .srl_E => .shiftReg .srl .e
  | .srl_H => .shiftReg .srl .h
  | .srl_L => .shiftReg .srl .l
  | .srl_atHL => .shiftHL .srl
  | .srl_A => .shiftReg .srl .a
  | .bit_0_B => .bitReg 0 .b
  | .bit_0_C => .bitReg 0 .c
  | .bit_0_D => .bitReg 0 .d
  | .bit_0_E => .bitReg 0 .e
  | .bit_0_H => .bitReg 0 .h
  | .bit_0_L => .bitReg 0 .l
  | .bit_0_atHL => .bitHL 0
  | .bit_0_A => .bitReg 0 .a
  | .bit_1_B => .bitReg 1 .b
  | .bit_1_C => .bitReg 1 .c
  | .bit_1_D => .bitReg 1 .d
  | .bit_1_E => .bitReg 1 .e
  | .bit_1_H => .bitReg 1 .h
  | .bit_1_L => .bitReg 1 .l
  | .bit_1_atHL => .bitHL 1
  | .bit_1_A => .bitReg 1 .a
  | .bit_2_B => .bitReg 2 .b
  | .bit_2_C => .bitReg 2 .c
  | .bit_2_D => .bitReg 2 .d
  | .bit_2_E => .bitReg 2 .e
  | .bit_2_H => .bitReg 2 .h
  | .bit_2_L => .bitReg 2 .l
  | .bit_2_atHL => .bitHL 2
  | .bit_2_A => .bitReg 2 .a
  | .bit_3_B => .bitReg 3 .b
  | .bit_3_C => .bitReg 3 .c
  | .bit_3_D => .bitReg 3 .d
  | .bit_3_E => .bitReg 3 .e
  | .bit_3_H => .bitReg 3 .h
  | .bit_3_L => .bitReg 3 .l
  | .bit_3_atHL => .bitHL 3
  | .bit_3_A => .bitReg 3 .a
  | .bit_4_B => .bitReg 4 .b
  | .bit_4_C => .bitReg 4 .c
  | .bit_4_D => .bitReg 4 .d
  | .bit_4_E => .bitReg 4 .e
  | .bit_4_H => .bitReg 4 .h
  | .bit_4_L => .bitReg 4 .l
  | .bit_4_atHL => .bitHL 4
  | .bit_4_A => .bitReg 4 .a
  | .bit_5_B => .bitReg 5 .b
  | .bit_5_C => .bitReg 5 .c
  | .bit_5_D => .bitReg 5 .d
  | .bit_5_E => .bitReg 5 .e
  | .bit_5_H => .bitReg 5 .h
  | .bit_5_L => .bitReg 5 .l
  | .bit_5_atHL => .bitHL 5
  | .bit_5_A => .bitReg 5 .a
  | .bit_6_B => .bitReg 6 .b
  | .bit_6_C => .bitReg 6 .c
  | .bit_6_D => .bitReg 6 .d
  | .bit_6_E => .bitReg 6 .e
  | .bit_6_H => .bitReg 6 .h
  | .bit_6_L => .bitReg 6 .l
  | .bit_6_atHL => .bitHL 6
  | .bit_6_A => .bitReg 6 .a
  | .bit_7_B => .bitReg 7 .b
  | .bit_7_C => .bitReg 7 .c
  | .bit_7_D => .bitReg 7 .d
  | .bit_7_E => .bitReg 7 .e
  | .bit_7_H => .bitReg 7 .h
  | .bit_7_L => .bitReg 7 .l
  | .bit_7_atHL => .bitHL 7
  | .bit_7_A => .bitReg 7 .a
  | .res_0_B => .resReg 0 .b
  | .res_0_C => .resReg 0 .c
  | .res_0_D => .resReg 0 .d
  | .res_0_E => .resReg 0 .e
  | .res_0_H => .resReg 0 .h
  | .res_0_L => .resReg 0 .l
  | .res_0_atHL => .resHL 0
  | .res_0_A => .resReg 0 .a
  | .res_1_B => .resReg 1 .b
  | .res_1_C => .resReg 1 .c
  | .res_1_D => .resReg 1 .d
  | .res_1_E => .resReg 1 .e
  | .res_1_H => .resReg 1 .h
  | .res_1_L => .resReg 1 .l
  | .res_1_atHL => .resHL 1
  | .res_1_A => .resReg 1 .a
  | .res_2_B => .resReg 2 .b
  | .res_2_C => .resReg 2 .c
  | .res_2_D => .resReg 2 .d
  | .res_2_E => .resReg 2 .e
  | .res_2_H => .resReg 2 .h
  | .res_2_L => .resReg 2 .l
  | .res_2_atHL => .resHL 2
  | .res_2_A => .resReg 2 .a
  | .res_3_B => .resReg 3 .b
  | .res_3_C => .resReg 3 .c
  | .res_3_D => .resReg 3 .d
  | .res_3_E => .resReg 3 .e
  | .res_3_H => .resReg 3 .h
  | .res_3_L => .resReg 3 .l
  | .res_3_atHL => .resHL 3
  | .res_3_A => .resReg 3 .a
  | .res_4_B => .resReg 4 .b
  | .res_4_C => .resReg 4 .c
  | .res_4_D => .resReg 4 .d
  | .res_4_E => .resReg 4 .e
  | .res_4_H => .resReg 4 .h
  | .res_4_L => .resReg 4 .l
  | .res_4_atHL => .resHL 4
  | .res_4_A => .resReg 4 .a
  | .res_5_B => .resReg 5 .b
  | .res_5_C => .resReg 5 .c
  | .res_5_D => .resReg 5 .d
  | .res_5_E => .resReg 5 .e
  | .res_5_H => .resReg 5 .h
  | .res_5_L => .resReg 5 .l
  | .res_5_atHL => .resHL 5
  | .res_5_A => .resReg 5 .a
  | .res_6_B => .resReg 6 .b
  | .res_6_C => .resReg 6 .c
  | .res_6_D => .resReg 6 .d
  | .res_6_E => .resReg 6 .e
  | .res_6_H => .resReg 6 .h
  | .res_6_L => .resReg 6 .l
  | .res_6_atHL => .resHL 6
  | .res_6_A => .resReg 6 .a
  | .res_7_B => .resReg 7 .b
  | .res_7_C => .resReg 7 .c
  | .res_7_D => .resReg 7 .d
  | .res_7_E => .resReg 7 .e
  | .res_7_H => .resReg 7 .h
  | .res_7_L => .resReg 7 .l
  | .res_7_atHL => .resHL 7
  | .res_7_A => .resReg 7 .a
  | .set_0_B => .setReg 0 .b
  | .set_0_C => .setReg 0 .c
  | .set_0_D => .setReg 0 .d
  | .set_0_E => .setReg 0 .e
  | .set_0_H => .setReg 0 .h
  | .set_0_L => .setReg 0 .l
  | .set_0_atHL => .setHL 0
  | .set_0_A => .setReg 0 .a
  | .set_1_B => .setReg 1 .b
  | .set_1_C => .setReg 1 .c
  | .set_1_D => .setReg 1 .d
  | .set_1_E => .setReg 1 .e
  | .set_1_H => .setReg 1 .h
  | .set_1_L => .setReg 1 .l
  | .set_1_atHL => .setHL 1
  | .set_1_A => .setReg 1 .a
  | .set_2_B => .setReg 2 .b
  | .set_2_C => .setReg 2 .c
  | .set_2_D => .setReg 2 .d
  | .set_2_E => .setReg 2 .e
  | .set_2_H => .setReg 2 .h
  | .set_2_L => .setReg 2 .l
  | .set_2_atHL => .setHL 2
  | .set_2_A => .setReg 2 .a
  | .set_3_B => .setReg 3 .b
  | .set_3_C => .setReg 3 .c
  | .set_3_D => .setReg 3 .d
  | .set_3_E => .setReg 3 .e
  | .set_3_H => .setReg 3 .h
  | .set_3_L => .setReg 3 .l
  | .set_3_atHL => .setHL 3
  | .set_3_A => .setReg 3 .a
  | .set_4_B => .setReg 4 .b
  | .set_4_C => .setReg 4 .c
  | .set_4_D => .setReg 4 .d
  | .set_4_E => .setReg 4 .e
  | .set_4_H => .setReg 4 .h
  | .set_4_L => .setReg 4 .l
  | .set_4_atHL => .setHL 4
  | .set_4_A => .setReg 4 .a
  | .set_5_B => .setReg 5 .b
  | .set_5_C => .setReg 5 .c
  | .set_5_D => .setReg 5 .d
  | .set_5_E => .setReg 5 .e
  | .set_5_H => .setReg 5 .h
  | .set_5_L => .setReg 5 .l
  | .set_5_atHL => .setHL 5
  | .set_5_A => .setReg 5 .a
  | .set_6_B => .setReg 6 .b
  | .set_6_C => .setReg 6 .c
  | .set_6_D => .setReg 6 .d
  | .set_6_E => .setReg 6 .e
  | .set_6_H => .setReg 6 .h
  | .set_6_L => .setReg 6 .l
  | .set_6_atHL => .setHL 6
  | .set_6_A => .setReg 6 .a
  | .set_7_B => .setReg 7 .b
  | .set_7_C => .setReg 7 .c
  | .set_7_D => .setReg 7 .d
  | .set_7_E => .setReg 7 .e
  | .set_7_H => .setReg 7 .h
  | .set_7_L => .setReg 7 .l
  | .set_7_atHL => .setHL 7
  | .set_7_A => .setReg 7 .a

/-- The instruction of a rule and operands. -/
def Form.instr : Form → Instr
  | .nop => .nop
  | .ldPairImm .bc nn => .ld_BC_d16 nn
  | .ldBCA => .ld_atBC_A
  | .incPair .bc => .inc_BC
  | .incReg .b => .inc_B
  | .decReg .b => .dec_B
  | .ldRegImm .b n => .ld_B_d8 n
  | .rlca => .rlca
  | .ldAbsSP addr => .ld_atA16_SP addr
  | .addHL .bc => .add_HL_BC
  | .ldABC => .ld_A_atBC
  | .decPair .bc => .dec_BC
  | .incReg .c => .inc_C
  | .decReg .c => .dec_C
  | .ldRegImm .c n => .ld_C_d8 n
  | .rrca => .rrca
  | .stop pad => .stop pad
  | .ldPairImm .de nn => .ld_DE_d16 nn
  | .ldDEA => .ld_atDE_A
  | .incPair .de => .inc_DE
  | .incReg .d => .inc_D
  | .decReg .d => .dec_D
  | .ldRegImm .d n => .ld_D_d8 n
  | .rla => .rla
  | .jr e => .jr_e8 e
  | .addHL .de => .add_HL_DE
  | .ldADE => .ld_A_atDE
  | .decPair .de => .dec_DE
  | .incReg .e => .inc_E
  | .decReg .e => .dec_E
  | .ldRegImm .e n => .ld_E_d8 n
  | .rra => .rra
  | .jrCond .nz e => .jr_NZ_e8 e
  | .ldPairImm .hl nn => .ld_HL_d16 nn
  | .ldIncA => .ld_atHLI_A
  | .incPair .hl => .inc_HL
  | .incReg .h => .inc_H
  | .decReg .h => .dec_H
  | .ldRegImm .h n => .ld_H_d8 n
  | .daa => .daa
  | .jrCond .z e => .jr_Z_e8 e
  | .addHL .hl => .add_HL_HL
  | .ldAInc => .ld_A_atHLI
  | .decPair .hl => .dec_HL
  | .incReg .l => .inc_L
  | .decReg .l => .dec_L
  | .ldRegImm .l n => .ld_L_d8 n
  | .cpl => .cpl
  | .jrCond .nc e => .jr_NC_e8 e
  | .ldPairImm .sp nn => .ld_SP_d16 nn
  | .ldDecA => .ld_atHLD_A
  | .incPair .sp => .inc_SP
  | .incHL => .inc_atHL
  | .decHL => .dec_atHL
  | .ldHLImm n => .ld_atHL_d8 n
  | .scf => .scf
  | .jrCond .c e => .jr_C_e8 e
  | .addHL .sp => .add_HL_SP
  | .ldADec => .ld_A_atHLD
  | .decPair .sp => .dec_SP
  | .incReg .a => .inc_A
  | .decReg .a => .dec_A
  | .ldRegImm .a n => .ld_A_d8 n
  | .ccf => .ccf
  | .ldRegReg .b .b => .ld_B_B
  | .ldRegReg .b .c => .ld_B_C
  | .ldRegReg .b .d => .ld_B_D
  | .ldRegReg .b .e => .ld_B_E
  | .ldRegReg .b .h => .ld_B_H
  | .ldRegReg .b .l => .ld_B_L
  | .ldRegHL .b => .ld_B_atHL
  | .ldRegReg .b .a => .ld_B_A
  | .ldRegReg .c .b => .ld_C_B
  | .ldRegReg .c .c => .ld_C_C
  | .ldRegReg .c .d => .ld_C_D
  | .ldRegReg .c .e => .ld_C_E
  | .ldRegReg .c .h => .ld_C_H
  | .ldRegReg .c .l => .ld_C_L
  | .ldRegHL .c => .ld_C_atHL
  | .ldRegReg .c .a => .ld_C_A
  | .ldRegReg .d .b => .ld_D_B
  | .ldRegReg .d .c => .ld_D_C
  | .ldRegReg .d .d => .ld_D_D
  | .ldRegReg .d .e => .ld_D_E
  | .ldRegReg .d .h => .ld_D_H
  | .ldRegReg .d .l => .ld_D_L
  | .ldRegHL .d => .ld_D_atHL
  | .ldRegReg .d .a => .ld_D_A
  | .ldRegReg .e .b => .ld_E_B
  | .ldRegReg .e .c => .ld_E_C
  | .ldRegReg .e .d => .ld_E_D
  | .ldRegReg .e .e => .ld_E_E
  | .ldRegReg .e .h => .ld_E_H
  | .ldRegReg .e .l => .ld_E_L
  | .ldRegHL .e => .ld_E_atHL
  | .ldRegReg .e .a => .ld_E_A
  | .ldRegReg .h .b => .ld_H_B
  | .ldRegReg .h .c => .ld_H_C
  | .ldRegReg .h .d => .ld_H_D
  | .ldRegReg .h .e => .ld_H_E
  | .ldRegReg .h .h => .ld_H_H
  | .ldRegReg .h .l => .ld_H_L
  | .ldRegHL .h => .ld_H_atHL
  | .ldRegReg .h .a => .ld_H_A
  | .ldRegReg .l .b => .ld_L_B
  | .ldRegReg .l .c => .ld_L_C
  | .ldRegReg .l .d => .ld_L_D
  | .ldRegReg .l .e => .ld_L_E
  | .ldRegReg .l .h => .ld_L_H
  | .ldRegReg .l .l => .ld_L_L
  | .ldRegHL .l => .ld_L_atHL
  | .ldRegReg .l .a => .ld_L_A
  | .ldHLReg .b => .ld_atHL_B
  | .ldHLReg .c => .ld_atHL_C
  | .ldHLReg .d => .ld_atHL_D
  | .ldHLReg .e => .ld_atHL_E
  | .ldHLReg .h => .ld_atHL_H
  | .ldHLReg .l => .ld_atHL_L
  | .halt => .halt
  | .ldHLReg .a => .ld_atHL_A
  | .ldRegReg .a .b => .ld_A_B
  | .ldRegReg .a .c => .ld_A_C
  | .ldRegReg .a .d => .ld_A_D
  | .ldRegReg .a .e => .ld_A_E
  | .ldRegReg .a .h => .ld_A_H
  | .ldRegReg .a .l => .ld_A_L
  | .ldRegHL .a => .ld_A_atHL
  | .ldRegReg .a .a => .ld_A_A
  | .aluReg .add .b => .add_A_B
  | .aluReg .add .c => .add_A_C
  | .aluReg .add .d => .add_A_D
  | .aluReg .add .e => .add_A_E
  | .aluReg .add .h => .add_A_H
  | .aluReg .add .l => .add_A_L
  | .aluHL .add => .add_A_atHL
  | .aluReg .add .a => .add_A_A
  | .aluReg .adc .b => .adc_A_B
  | .aluReg .adc .c => .adc_A_C
  | .aluReg .adc .d => .adc_A_D
  | .aluReg .adc .e => .adc_A_E
  | .aluReg .adc .h => .adc_A_H
  | .aluReg .adc .l => .adc_A_L
  | .aluHL .adc => .adc_A_atHL
  | .aluReg .adc .a => .adc_A_A
  | .aluReg .sub .b => .sub_B
  | .aluReg .sub .c => .sub_C
  | .aluReg .sub .d => .sub_D
  | .aluReg .sub .e => .sub_E
  | .aluReg .sub .h => .sub_H
  | .aluReg .sub .l => .sub_L
  | .aluHL .sub => .sub_atHL
  | .aluReg .sub .a => .sub_A
  | .aluReg .sbc .b => .sbc_A_B
  | .aluReg .sbc .c => .sbc_A_C
  | .aluReg .sbc .d => .sbc_A_D
  | .aluReg .sbc .e => .sbc_A_E
  | .aluReg .sbc .h => .sbc_A_H
  | .aluReg .sbc .l => .sbc_A_L
  | .aluHL .sbc => .sbc_A_atHL
  | .aluReg .sbc .a => .sbc_A_A
  | .aluReg .and .b => .and_B
  | .aluReg .and .c => .and_C
  | .aluReg .and .d => .and_D
  | .aluReg .and .e => .and_E
  | .aluReg .and .h => .and_H
  | .aluReg .and .l => .and_L
  | .aluHL .and => .and_atHL
  | .aluReg .and .a => .and_A
  | .aluReg .xor .b => .xor_B
  | .aluReg .xor .c => .xor_C
  | .aluReg .xor .d => .xor_D
  | .aluReg .xor .e => .xor_E
  | .aluReg .xor .h => .xor_H
  | .aluReg .xor .l => .xor_L
  | .aluHL .xor => .xor_atHL
  | .aluReg .xor .a => .xor_A
  | .aluReg .or .b => .or_B
  | .aluReg .or .c => .or_C
  | .aluReg .or .d => .or_D
  | .aluReg .or .e => .or_E
  | .aluReg .or .h => .or_H
  | .aluReg .or .l => .or_L
  | .aluHL .or => .or_atHL
  | .aluReg .or .a => .or_A
  | .aluReg .cp .b => .cp_B
  | .aluReg .cp .c => .cp_C
  | .aluReg .cp .d => .cp_D
  | .aluReg .cp .e => .cp_E
  | .aluReg .cp .h => .cp_H
  | .aluReg .cp .l => .cp_L
  | .aluHL .cp => .cp_atHL
  | .aluReg .cp .a => .cp_A
  | .retCond .nz => .ret_NZ
  | .pop .bc => .pop_BC
  | .jpCond .nz addr => .jp_NZ_a16 addr
  | .jp addr => .jp_a16 addr
  | .callCond .nz addr => .call_NZ_a16 addr
  | .push .bc => .push_BC
  | .aluImm .add n => .add_A_d8 n
  | .rst 0 => .rst_00
  | .retCond .z => .ret_Z
  | .ret => .ret
  | .jpCond .z addr => .jp_Z_a16 addr
  | .callCond .z addr => .call_Z_a16 addr
  | .call addr => .call_a16 addr
  | .aluImm .adc n => .adc_A_d8 n
  | .rst 1 => .rst_08
  | .retCond .nc => .ret_NC
  | .pop .de => .pop_DE
  | .jpCond .nc addr => .jp_NC_a16 addr
  | .undefined code => .undefined code
  | .callCond .nc addr => .call_NC_a16 addr
  | .push .de => .push_DE
  | .aluImm .sub n => .sub_d8 n
  | .rst 2 => .rst_10
  | .retCond .c => .ret_C
  | .reti => .reti
  | .jpCond .c addr => .jp_C_a16 addr
  | .callCond .c addr => .call_C_a16 addr
  | .aluImm .sbc n => .sbc_A_d8 n
  | .rst 3 => .rst_18
  | .ldhImmA n => .ldh_atA8_A n
  | .pop .hl => .pop_HL
  | .ldhCA => .ld_atC_A
  | .push .hl => .push_HL
  | .aluImm .and n => .and_d8 n
  | .rst 4 => .rst_20
  | .addSPe e => .add_SP_e8 e
  | .jpHL => .jp_HL
  | .ldAbsA addr => .ld_atA16_A addr
  | .aluImm .xor n => .xor_d8 n
  | .rst 5 => .rst_28
  | .ldhAImm n => .ldh_A_atA8 n
  | .pop .af => .pop_AF
  | .ldhAC => .ld_A_atC
  | .di => .di
  | .push .af => .push_AF
  | .aluImm .or n => .or_d8 n
  | .rst 6 => .rst_30
  | .ldHLSPe e => .ld_HL_SPe8 e
  | .ldSPHL => .ld_SP_HL
  | .ldAAbs addr => .ld_A_atA16 addr
  | .ei => .ei
  | .aluImm .cp n => .cp_d8 n
  | .rst 7 => .rst_38
  | .shiftReg .rlc .b => .rlc_B
  | .shiftReg .rlc .c => .rlc_C
  | .shiftReg .rlc .d => .rlc_D
  | .shiftReg .rlc .e => .rlc_E
  | .shiftReg .rlc .h => .rlc_H
  | .shiftReg .rlc .l => .rlc_L
  | .shiftHL .rlc => .rlc_atHL
  | .shiftReg .rlc .a => .rlc_A
  | .shiftReg .rrc .b => .rrc_B
  | .shiftReg .rrc .c => .rrc_C
  | .shiftReg .rrc .d => .rrc_D
  | .shiftReg .rrc .e => .rrc_E
  | .shiftReg .rrc .h => .rrc_H
  | .shiftReg .rrc .l => .rrc_L
  | .shiftHL .rrc => .rrc_atHL
  | .shiftReg .rrc .a => .rrc_A
  | .shiftReg .rl .b => .rl_B
  | .shiftReg .rl .c => .rl_C
  | .shiftReg .rl .d => .rl_D
  | .shiftReg .rl .e => .rl_E
  | .shiftReg .rl .h => .rl_H
  | .shiftReg .rl .l => .rl_L
  | .shiftHL .rl => .rl_atHL
  | .shiftReg .rl .a => .rl_A
  | .shiftReg .rr .b => .rr_B
  | .shiftReg .rr .c => .rr_C
  | .shiftReg .rr .d => .rr_D
  | .shiftReg .rr .e => .rr_E
  | .shiftReg .rr .h => .rr_H
  | .shiftReg .rr .l => .rr_L
  | .shiftHL .rr => .rr_atHL
  | .shiftReg .rr .a => .rr_A
  | .shiftReg .sla .b => .sla_B
  | .shiftReg .sla .c => .sla_C
  | .shiftReg .sla .d => .sla_D
  | .shiftReg .sla .e => .sla_E
  | .shiftReg .sla .h => .sla_H
  | .shiftReg .sla .l => .sla_L
  | .shiftHL .sla => .sla_atHL
  | .shiftReg .sla .a => .sla_A
  | .shiftReg .sra .b => .sra_B
  | .shiftReg .sra .c => .sra_C
  | .shiftReg .sra .d => .sra_D
  | .shiftReg .sra .e => .sra_E
  | .shiftReg .sra .h => .sra_H
  | .shiftReg .sra .l => .sra_L
  | .shiftHL .sra => .sra_atHL
  | .shiftReg .sra .a => .sra_A
  | .shiftReg .swap .b => .swap_B
  | .shiftReg .swap .c => .swap_C
  | .shiftReg .swap .d => .swap_D
  | .shiftReg .swap .e => .swap_E
  | .shiftReg .swap .h => .swap_H
  | .shiftReg .swap .l => .swap_L
  | .shiftHL .swap => .swap_atHL
  | .shiftReg .swap .a => .swap_A
  | .shiftReg .srl .b => .srl_B
  | .shiftReg .srl .c => .srl_C
  | .shiftReg .srl .d => .srl_D
  | .shiftReg .srl .e => .srl_E
  | .shiftReg .srl .h => .srl_H
  | .shiftReg .srl .l => .srl_L
  | .shiftHL .srl => .srl_atHL
  | .shiftReg .srl .a => .srl_A
  | .bitReg 0 .b => .bit_0_B
  | .bitReg 0 .c => .bit_0_C
  | .bitReg 0 .d => .bit_0_D
  | .bitReg 0 .e => .bit_0_E
  | .bitReg 0 .h => .bit_0_H
  | .bitReg 0 .l => .bit_0_L
  | .bitHL 0 => .bit_0_atHL
  | .bitReg 0 .a => .bit_0_A
  | .bitReg 1 .b => .bit_1_B
  | .bitReg 1 .c => .bit_1_C
  | .bitReg 1 .d => .bit_1_D
  | .bitReg 1 .e => .bit_1_E
  | .bitReg 1 .h => .bit_1_H
  | .bitReg 1 .l => .bit_1_L
  | .bitHL 1 => .bit_1_atHL
  | .bitReg 1 .a => .bit_1_A
  | .bitReg 2 .b => .bit_2_B
  | .bitReg 2 .c => .bit_2_C
  | .bitReg 2 .d => .bit_2_D
  | .bitReg 2 .e => .bit_2_E
  | .bitReg 2 .h => .bit_2_H
  | .bitReg 2 .l => .bit_2_L
  | .bitHL 2 => .bit_2_atHL
  | .bitReg 2 .a => .bit_2_A
  | .bitReg 3 .b => .bit_3_B
  | .bitReg 3 .c => .bit_3_C
  | .bitReg 3 .d => .bit_3_D
  | .bitReg 3 .e => .bit_3_E
  | .bitReg 3 .h => .bit_3_H
  | .bitReg 3 .l => .bit_3_L
  | .bitHL 3 => .bit_3_atHL
  | .bitReg 3 .a => .bit_3_A
  | .bitReg 4 .b => .bit_4_B
  | .bitReg 4 .c => .bit_4_C
  | .bitReg 4 .d => .bit_4_D
  | .bitReg 4 .e => .bit_4_E
  | .bitReg 4 .h => .bit_4_H
  | .bitReg 4 .l => .bit_4_L
  | .bitHL 4 => .bit_4_atHL
  | .bitReg 4 .a => .bit_4_A
  | .bitReg 5 .b => .bit_5_B
  | .bitReg 5 .c => .bit_5_C
  | .bitReg 5 .d => .bit_5_D
  | .bitReg 5 .e => .bit_5_E
  | .bitReg 5 .h => .bit_5_H
  | .bitReg 5 .l => .bit_5_L
  | .bitHL 5 => .bit_5_atHL
  | .bitReg 5 .a => .bit_5_A
  | .bitReg 6 .b => .bit_6_B
  | .bitReg 6 .c => .bit_6_C
  | .bitReg 6 .d => .bit_6_D
  | .bitReg 6 .e => .bit_6_E
  | .bitReg 6 .h => .bit_6_H
  | .bitReg 6 .l => .bit_6_L
  | .bitHL 6 => .bit_6_atHL
  | .bitReg 6 .a => .bit_6_A
  | .bitReg 7 .b => .bit_7_B
  | .bitReg 7 .c => .bit_7_C
  | .bitReg 7 .d => .bit_7_D
  | .bitReg 7 .e => .bit_7_E
  | .bitReg 7 .h => .bit_7_H
  | .bitReg 7 .l => .bit_7_L
  | .bitHL 7 => .bit_7_atHL
  | .bitReg 7 .a => .bit_7_A
  | .resReg 0 .b => .res_0_B
  | .resReg 0 .c => .res_0_C
  | .resReg 0 .d => .res_0_D
  | .resReg 0 .e => .res_0_E
  | .resReg 0 .h => .res_0_H
  | .resReg 0 .l => .res_0_L
  | .resHL 0 => .res_0_atHL
  | .resReg 0 .a => .res_0_A
  | .resReg 1 .b => .res_1_B
  | .resReg 1 .c => .res_1_C
  | .resReg 1 .d => .res_1_D
  | .resReg 1 .e => .res_1_E
  | .resReg 1 .h => .res_1_H
  | .resReg 1 .l => .res_1_L
  | .resHL 1 => .res_1_atHL
  | .resReg 1 .a => .res_1_A
  | .resReg 2 .b => .res_2_B
  | .resReg 2 .c => .res_2_C
  | .resReg 2 .d => .res_2_D
  | .resReg 2 .e => .res_2_E
  | .resReg 2 .h => .res_2_H
  | .resReg 2 .l => .res_2_L
  | .resHL 2 => .res_2_atHL
  | .resReg 2 .a => .res_2_A
  | .resReg 3 .b => .res_3_B
  | .resReg 3 .c => .res_3_C
  | .resReg 3 .d => .res_3_D
  | .resReg 3 .e => .res_3_E
  | .resReg 3 .h => .res_3_H
  | .resReg 3 .l => .res_3_L
  | .resHL 3 => .res_3_atHL
  | .resReg 3 .a => .res_3_A
  | .resReg 4 .b => .res_4_B
  | .resReg 4 .c => .res_4_C
  | .resReg 4 .d => .res_4_D
  | .resReg 4 .e => .res_4_E
  | .resReg 4 .h => .res_4_H
  | .resReg 4 .l => .res_4_L
  | .resHL 4 => .res_4_atHL
  | .resReg 4 .a => .res_4_A
  | .resReg 5 .b => .res_5_B
  | .resReg 5 .c => .res_5_C
  | .resReg 5 .d => .res_5_D
  | .resReg 5 .e => .res_5_E
  | .resReg 5 .h => .res_5_H
  | .resReg 5 .l => .res_5_L
  | .resHL 5 => .res_5_atHL
  | .resReg 5 .a => .res_5_A
  | .resReg 6 .b => .res_6_B
  | .resReg 6 .c => .res_6_C
  | .resReg 6 .d => .res_6_D
  | .resReg 6 .e => .res_6_E
  | .resReg 6 .h => .res_6_H
  | .resReg 6 .l => .res_6_L
  | .resHL 6 => .res_6_atHL
  | .resReg 6 .a => .res_6_A
  | .resReg 7 .b => .res_7_B
  | .resReg 7 .c => .res_7_C
  | .resReg 7 .d => .res_7_D
  | .resReg 7 .e => .res_7_E
  | .resReg 7 .h => .res_7_H
  | .resReg 7 .l => .res_7_L
  | .resHL 7 => .res_7_atHL
  | .resReg 7 .a => .res_7_A
  | .setReg 0 .b => .set_0_B
  | .setReg 0 .c => .set_0_C
  | .setReg 0 .d => .set_0_D
  | .setReg 0 .e => .set_0_E
  | .setReg 0 .h => .set_0_H
  | .setReg 0 .l => .set_0_L
  | .setHL 0 => .set_0_atHL
  | .setReg 0 .a => .set_0_A
  | .setReg 1 .b => .set_1_B
  | .setReg 1 .c => .set_1_C
  | .setReg 1 .d => .set_1_D
  | .setReg 1 .e => .set_1_E
  | .setReg 1 .h => .set_1_H
  | .setReg 1 .l => .set_1_L
  | .setHL 1 => .set_1_atHL
  | .setReg 1 .a => .set_1_A
  | .setReg 2 .b => .set_2_B
  | .setReg 2 .c => .set_2_C
  | .setReg 2 .d => .set_2_D
  | .setReg 2 .e => .set_2_E
  | .setReg 2 .h => .set_2_H
  | .setReg 2 .l => .set_2_L
  | .setHL 2 => .set_2_atHL
  | .setReg 2 .a => .set_2_A
  | .setReg 3 .b => .set_3_B
  | .setReg 3 .c => .set_3_C
  | .setReg 3 .d => .set_3_D
  | .setReg 3 .e => .set_3_E
  | .setReg 3 .h => .set_3_H
  | .setReg 3 .l => .set_3_L
  | .setHL 3 => .set_3_atHL
  | .setReg 3 .a => .set_3_A
  | .setReg 4 .b => .set_4_B
  | .setReg 4 .c => .set_4_C
  | .setReg 4 .d => .set_4_D
  | .setReg 4 .e => .set_4_E
  | .setReg 4 .h => .set_4_H
  | .setReg 4 .l => .set_4_L
  | .setHL 4 => .set_4_atHL
  | .setReg 4 .a => .set_4_A
  | .setReg 5 .b => .set_5_B
  | .setReg 5 .c => .set_5_C
  | .setReg 5 .d => .set_5_D
  | .setReg 5 .e => .set_5_E
  | .setReg 5 .h => .set_5_H
  | .setReg 5 .l => .set_5_L
  | .setHL 5 => .set_5_atHL
  | .setReg 5 .a => .set_5_A
  | .setReg 6 .b => .set_6_B
  | .setReg 6 .c => .set_6_C
  | .setReg 6 .d => .set_6_D
  | .setReg 6 .e => .set_6_E
  | .setReg 6 .h => .set_6_H
  | .setReg 6 .l => .set_6_L
  | .setHL 6 => .set_6_atHL
  | .setReg 6 .a => .set_6_A
  | .setReg 7 .b => .set_7_B
  | .setReg 7 .c => .set_7_C
  | .setReg 7 .d => .set_7_D
  | .setReg 7 .e => .set_7_E
  | .setReg 7 .h => .set_7_H
  | .setReg 7 .l => .set_7_L
  | .setHL 7 => .set_7_atHL
  | .setReg 7 .a => .set_7_A
/-! ## The decoder -/

/-- What the first byte says of the bytes that follow it (R120, R125). -/
inductive Entry where
  /-- A one-byte instruction. -/
  | one (f : Form)
  /-- One more byte, an immediate, a pad byte or a CB-page opcode. -/
  | two (f : Byte → Form)
  /-- Two more bytes, a 16-bit immediate, low byte first. -/
  | three (f : Word → Form)

/-- The base page, x = 0 (R126). -/
def decodeX0 (op : Byte) : Entry :=
  let y := fieldY op
  let p := fieldP op
  let q := fieldQ op
  match fieldZ op with
  | 0 =>
    match y with
    | 0 => .one .nop
    | 1 => .three .ldAbsSP
    | 2 => .two .stop
    | 3 => .two .jr
    | _ => .two (.jrCond (condOf (y - 4)))
  | 1 => if q = 0 then .three (.ldPairImm (pairOf p)) else .one (.addHL (pairOf p))
  | 2 =>
    match q, p with
    | 0, 0 => .one .ldBCA
    | 0, 1 => .one .ldDEA
    | 0, 2 => .one .ldIncA
    | 0, _ => .one .ldDecA
    | _, 0 => .one .ldABC
    | _, 1 => .one .ldADE
    | _, 2 => .one .ldAInc
    | _, _ => .one .ldADec
  | 3 => if q = 0 then .one (.incPair (pairOf p)) else .one (.decPair (pairOf p))
  | 4 =>
    match operand8 y with
    | .reg r => .one (.incReg r)
    | .atHL => .one .incHL
  | 5 =>
    match operand8 y with
    | .reg r => .one (.decReg r)
    | .atHL => .one .decHL
  | 6 =>
    match operand8 y with
    | .reg r => .two (.ldRegImm r)
    | .atHL => .two .ldHLImm
  | _ =>
    match y with
    | 0 => .one .rlca
    | 1 => .one .rrca
    | 2 => .one .rla
    | 3 => .one .rra
    | 4 => .one .daa
    | 5 => .one .cpl
    | 6 => .one .scf
    | _ => .one .ccf

/-- The base page, x = 1: the register loads and HALT (R126). -/
def decodeX1 (op : Byte) : Entry :=
  match operand8 (fieldY op), operand8 (fieldZ op) with
  | .reg dst, .reg src => .one (.ldRegReg dst src)
  | .reg dst, .atHL => .one (.ldRegHL dst)
  | .atHL, .reg src => .one (.ldHLReg src)
  | .atHL, .atHL => .one .halt

/-- The base page, x = 2: the ALU block (R126). -/
def decodeX2 (op : Byte) : Entry :=
  match operand8 (fieldZ op) with
  | .reg r => .one (.aluReg (aluOf (fieldY op)) r)
  | .atHL => .one (.aluHL (aluOf (fieldY op)))

/-- A CB-page opcode byte (R122, R127). -/
def decodeCB (op : Byte) : Form :=
  let y := fieldY op
  match fieldX op, operand8 (fieldZ op) with
  | 0, .reg r => .shiftReg (shiftOf y) r
  | 0, .atHL => .shiftHL (shiftOf y)
  | 1, .reg r => .bitReg (field3 y) r
  | 1, .atHL => .bitHL (field3 y)
  | 2, .reg r => .resReg (field3 y) r
  | 2, .atHL => .resHL (field3 y)
  | _, .reg r => .setReg (field3 y) r
  | _, .atHL => .setHL (field3 y)

/-- The base page, x = 3, with the undefined opcodes (R126, R129) and the CB prefix (R330). -/
def decodeX3 (op : Byte) : Entry :=
  let y := fieldY op
  let p := fieldP op
  let q := fieldQ op
  match fieldZ op with
  | 0 =>
    match y with
    | 4 => .two .ldhImmA
    | 5 => .two .addSPe
    | 6 => .two .ldhAImm
    | 7 => .two .ldHLSPe
    | _ => .one (.retCond (condOf y))
  | 1 =>
    match q, p with
    | 0, _ => .one (.pop (stkPairOf p))
    | _, 0 => .one .ret
    | _, 1 => .one .reti
    | _, 2 => .one .jpHL
    | _, _ => .one .ldSPHL
  | 2 =>
    match y with
    | 4 => .one .ldhCA
    | 5 => .three .ldAbsA
    | 6 => .one .ldhAC
    | 7 => .three .ldAAbs
    | _ => .three (.jpCond (condOf y))
  | 3 =>
    match y with
    | 0 => .three .jp
    | 1 => .two decodeCB
    | 6 => .one .di
    | 7 => .one .ei
    | _ => .one (.undefined op)
  | 4 => if y < 4 then .three (.callCond (condOf y)) else .one (.undefined op)
  | 5 =>
    match q, p with
    | 0, _ => .one (.push (stkPairOf p))
    | _, 0 => .three .call
    | _, _ => .one (.undefined op)
  | 6 => .two (.aluImm (aluOf y))
  | _ => .one (.rst (field3 y))

/-- The entry of the first byte (R126): every byte has one. -/
def decodeFirst (op : Byte) : Entry :=
  match fieldX op with
  | 0 => decodeX0 op
  | 1 => decodeX1 op
  | 2 => decodeX2 op
  | _ => decodeX3 op

/-- Why bytes hold no instruction. -/
inductive DecodeError where
  /-- No byte, or fewer bytes than the first one calls for (R125). -/
  | truncated
  /-- The dispatch table holds an operation that no rule describes (R8); raised by `decodeWith` alone. -/
  | other
deriving DecidableEq, Repr

/-- The instruction of an entry with the bytes after the first one, and the bytes after it (R125). -/
def Entry.read : Entry → List Byte → Except DecodeError (Instr × List Byte)
  | .one f, rest => .ok (f.instr, rest)
  | .two f, b :: rest => .ok ((f b).instr, rest)
  | .three f, lo :: hi :: rest => .ok ((f (hiLo hi lo)).instr, rest)
  | .two _, [] => .error .truncated
  | .three _, [] => .error .truncated
  | .three _, [_] => .error .truncated

/-- The instruction at the head of a list of bytes, and the bytes after it (R125). -/
def decode : List Byte → Except DecodeError (Instr × List Byte)
  | [] => .error .truncated
  | op :: rest => (decodeFirst op).read rest

/-! ## Decoding by a dispatch table (R8, D1) -/

/-- The entry under a base opcode other than the prefix. -/
def DispatchTable.baseEntry (t : DispatchTable) (op : Byte) : DispatchEntry := (t.base.lookup op).getD (.operation op)

/-- The entry under a CB-page opcode. -/
def DispatchTable.cbEntry (t : DispatchTable) (op : Byte) : DispatchEntry := (t.cb.lookup op).getD (.operation op)

/-- An undefined opcode reports the byte it was met under (R341). -/
def Entry.reporting (op : Byte) : Entry → Entry
  | .one (.undefined _) => .one (.undefined op)
  | e => e

/-- The instruction of a CB-page opcode; an empty entry is an undefined opcode (R130). -/
def DispatchTable.cbForm (t : DispatchTable) (op : Byte) : Form :=
  match t.cbEntry op with
  | .operation o => decodeCB o
  | .empty => .undefined op
  | .other => .undefined op

/-- The entry of the first byte: 0xCB is the prefix whatever the table (R125), and no operation stands under it. -/
def DispatchTable.first (t : DispatchTable) (op : Byte) : Entry :=
  if op = 0xCB#8 then .two t.cbForm
  else
    match t.baseEntry op with
    | .operation o => if o = 0xCB#8 then .one (.undefined op) else (decodeFirst o).reporting op
    | .empty => .one (.undefined op)
    | .other => .one (.undefined op)

/-- The bytes select an operation that no rule describes. -/
def DispatchTable.selectsOther (t : DispatchTable) : List Byte → Bool
  | [] => false
  | [op] => decide (op ≠ 0xCB#8) && decide (t.baseEntry op = .other)
  | op :: op2 :: _ => if op = 0xCB#8 then decide (t.cbEntry op2 = .other) else decide (t.baseEntry op = .other)

/-- The instruction at the head of a list of bytes under a dispatch table (R125, R130). -/
def decodeWith (t : DispatchTable) : List Byte → Except DecodeError (Instr × List Byte)
  | [] => .error .truncated
  | op :: rest => if t.selectsOther (op :: rest) then .error .other else (t.first op).read rest

/-! ## The encoder -/

/-- The bytes of an instruction, first byte first: the opcode bytes of spec/opcode_table.json (R126 to R128), then the
immediate, a 16-bit one low byte first (R124). -/
def encode : Instr → List Byte
  | .nop => [0x00#8]
  | .ld_BC_d16 nn => [0x01#8, lowByte nn, highByte nn]
  | .ld_atBC_A => [0x02#8]
  | .inc_BC => [0x03#8]
  | .inc_B => [0x04#8]
  | .dec_B => [0x05#8]
  | .ld_B_d8 n => [0x06#8, n]
  | .rlca => [0x07#8]
  | .ld_atA16_SP addr => [0x08#8, lowByte addr, highByte addr]
  | .add_HL_BC => [0x09#8]
  | .ld_A_atBC => [0x0A#8]
  | .dec_BC => [0x0B#8]
  | .inc_C => [0x0C#8]
  | .dec_C => [0x0D#8]
  | .ld_C_d8 n => [0x0E#8, n]
  | .rrca => [0x0F#8]
  | .stop pad => [0x10#8, pad]
  | .ld_DE_d16 nn => [0x11#8, lowByte nn, highByte nn]
  | .ld_atDE_A => [0x12#8]
  | .inc_DE => [0x13#8]
  | .inc_D => [0x14#8]
  | .dec_D => [0x15#8]
  | .ld_D_d8 n => [0x16#8, n]
  | .rla => [0x17#8]
  | .jr_e8 e => [0x18#8, e]
  | .add_HL_DE => [0x19#8]
  | .ld_A_atDE => [0x1A#8]
  | .dec_DE => [0x1B#8]
  | .inc_E => [0x1C#8]
  | .dec_E => [0x1D#8]
  | .ld_E_d8 n => [0x1E#8, n]
  | .rra => [0x1F#8]
  | .jr_NZ_e8 e => [0x20#8, e]
  | .ld_HL_d16 nn => [0x21#8, lowByte nn, highByte nn]
  | .ld_atHLI_A => [0x22#8]
  | .inc_HL => [0x23#8]
  | .inc_H => [0x24#8]
  | .dec_H => [0x25#8]
  | .ld_H_d8 n => [0x26#8, n]
  | .daa => [0x27#8]
  | .jr_Z_e8 e => [0x28#8, e]
  | .add_HL_HL => [0x29#8]
  | .ld_A_atHLI => [0x2A#8]
  | .dec_HL => [0x2B#8]
  | .inc_L => [0x2C#8]
  | .dec_L => [0x2D#8]
  | .ld_L_d8 n => [0x2E#8, n]
  | .cpl => [0x2F#8]
  | .jr_NC_e8 e => [0x30#8, e]
  | .ld_SP_d16 nn => [0x31#8, lowByte nn, highByte nn]
  | .ld_atHLD_A => [0x32#8]
  | .inc_SP => [0x33#8]
  | .inc_atHL => [0x34#8]
  | .dec_atHL => [0x35#8]
  | .ld_atHL_d8 n => [0x36#8, n]
  | .scf => [0x37#8]
  | .jr_C_e8 e => [0x38#8, e]
  | .add_HL_SP => [0x39#8]
  | .ld_A_atHLD => [0x3A#8]
  | .dec_SP => [0x3B#8]
  | .inc_A => [0x3C#8]
  | .dec_A => [0x3D#8]
  | .ld_A_d8 n => [0x3E#8, n]
  | .ccf => [0x3F#8]
  | .ld_B_B => [0x40#8]
  | .ld_B_C => [0x41#8]
  | .ld_B_D => [0x42#8]
  | .ld_B_E => [0x43#8]
  | .ld_B_H => [0x44#8]
  | .ld_B_L => [0x45#8]
  | .ld_B_atHL => [0x46#8]
  | .ld_B_A => [0x47#8]
  | .ld_C_B => [0x48#8]
  | .ld_C_C => [0x49#8]
  | .ld_C_D => [0x4A#8]
  | .ld_C_E => [0x4B#8]
  | .ld_C_H => [0x4C#8]
  | .ld_C_L => [0x4D#8]
  | .ld_C_atHL => [0x4E#8]
  | .ld_C_A => [0x4F#8]
  | .ld_D_B => [0x50#8]
  | .ld_D_C => [0x51#8]
  | .ld_D_D => [0x52#8]
  | .ld_D_E => [0x53#8]
  | .ld_D_H => [0x54#8]
  | .ld_D_L => [0x55#8]
  | .ld_D_atHL => [0x56#8]
  | .ld_D_A => [0x57#8]
  | .ld_E_B => [0x58#8]
  | .ld_E_C => [0x59#8]
  | .ld_E_D => [0x5A#8]
  | .ld_E_E => [0x5B#8]
  | .ld_E_H => [0x5C#8]
  | .ld_E_L => [0x5D#8]
  | .ld_E_atHL => [0x5E#8]
  | .ld_E_A => [0x5F#8]
  | .ld_H_B => [0x60#8]
  | .ld_H_C => [0x61#8]
  | .ld_H_D => [0x62#8]
  | .ld_H_E => [0x63#8]
  | .ld_H_H => [0x64#8]
  | .ld_H_L => [0x65#8]
  | .ld_H_atHL => [0x66#8]
  | .ld_H_A => [0x67#8]
  | .ld_L_B => [0x68#8]
  | .ld_L_C => [0x69#8]
  | .ld_L_D => [0x6A#8]
  | .ld_L_E => [0x6B#8]
  | .ld_L_H => [0x6C#8]
  | .ld_L_L => [0x6D#8]
  | .ld_L_atHL => [0x6E#8]
  | .ld_L_A => [0x6F#8]
  | .ld_atHL_B => [0x70#8]
  | .ld_atHL_C => [0x71#8]
  | .ld_atHL_D => [0x72#8]
  | .ld_atHL_E => [0x73#8]
  | .ld_atHL_H => [0x74#8]
  | .ld_atHL_L => [0x75#8]
  | .halt => [0x76#8]
  | .ld_atHL_A => [0x77#8]
  | .ld_A_B => [0x78#8]
  | .ld_A_C => [0x79#8]
  | .ld_A_D => [0x7A#8]
  | .ld_A_E => [0x7B#8]
  | .ld_A_H => [0x7C#8]
  | .ld_A_L => [0x7D#8]
  | .ld_A_atHL => [0x7E#8]
  | .ld_A_A => [0x7F#8]
  | .add_A_B => [0x80#8]
  | .add_A_C => [0x81#8]
  | .add_A_D => [0x82#8]
  | .add_A_E => [0x83#8]
  | .add_A_H => [0x84#8]
  | .add_A_L => [0x85#8]
  | .add_A_atHL => [0x86#8]
  | .add_A_A => [0x87#8]
  | .adc_A_B => [0x88#8]
  | .adc_A_C => [0x89#8]
  | .adc_A_D => [0x8A#8]
  | .adc_A_E => [0x8B#8]
  | .adc_A_H => [0x8C#8]
  | .adc_A_L => [0x8D#8]
  | .adc_A_atHL => [0x8E#8]
  | .adc_A_A => [0x8F#8]
  | .sub_B => [0x90#8]
  | .sub_C => [0x91#8]
  | .sub_D => [0x92#8]
  | .sub_E => [0x93#8]
  | .sub_H => [0x94#8]
  | .sub_L => [0x95#8]
  | .sub_atHL => [0x96#8]
  | .sub_A => [0x97#8]
  | .sbc_A_B => [0x98#8]
  | .sbc_A_C => [0x99#8]
  | .sbc_A_D => [0x9A#8]
  | .sbc_A_E => [0x9B#8]
  | .sbc_A_H => [0x9C#8]
  | .sbc_A_L => [0x9D#8]
  | .sbc_A_atHL => [0x9E#8]
  | .sbc_A_A => [0x9F#8]
  | .and_B => [0xA0#8]
  | .and_C => [0xA1#8]
  | .and_D => [0xA2#8]
  | .and_E => [0xA3#8]
  | .and_H => [0xA4#8]
  | .and_L => [0xA5#8]
  | .and_atHL => [0xA6#8]
  | .and_A => [0xA7#8]
  | .xor_B => [0xA8#8]
  | .xor_C => [0xA9#8]
  | .xor_D => [0xAA#8]
  | .xor_E => [0xAB#8]
  | .xor_H => [0xAC#8]
  | .xor_L => [0xAD#8]
  | .xor_atHL => [0xAE#8]
  | .xor_A => [0xAF#8]
  | .or_B => [0xB0#8]
  | .or_C => [0xB1#8]
  | .or_D => [0xB2#8]
  | .or_E => [0xB3#8]
  | .or_H => [0xB4#8]
  | .or_L => [0xB5#8]
  | .or_atHL => [0xB6#8]
  | .or_A => [0xB7#8]
  | .cp_B => [0xB8#8]
  | .cp_C => [0xB9#8]
  | .cp_D => [0xBA#8]
  | .cp_E => [0xBB#8]
  | .cp_H => [0xBC#8]
  | .cp_L => [0xBD#8]
  | .cp_atHL => [0xBE#8]
  | .cp_A => [0xBF#8]
  | .ret_NZ => [0xC0#8]
  | .pop_BC => [0xC1#8]
  | .jp_NZ_a16 addr => [0xC2#8, lowByte addr, highByte addr]
  | .jp_a16 addr => [0xC3#8, lowByte addr, highByte addr]
  | .call_NZ_a16 addr => [0xC4#8, lowByte addr, highByte addr]
  | .push_BC => [0xC5#8]
  | .add_A_d8 n => [0xC6#8, n]
  | .rst_00 => [0xC7#8]
  | .ret_Z => [0xC8#8]
  | .ret => [0xC9#8]
  | .jp_Z_a16 addr => [0xCA#8, lowByte addr, highByte addr]
  | .call_Z_a16 addr => [0xCC#8, lowByte addr, highByte addr]
  | .call_a16 addr => [0xCD#8, lowByte addr, highByte addr]
  | .adc_A_d8 n => [0xCE#8, n]
  | .rst_08 => [0xCF#8]
  | .ret_NC => [0xD0#8]
  | .pop_DE => [0xD1#8]
  | .jp_NC_a16 addr => [0xD2#8, lowByte addr, highByte addr]
  | .undefined code => [code]
  | .call_NC_a16 addr => [0xD4#8, lowByte addr, highByte addr]
  | .push_DE => [0xD5#8]
  | .sub_d8 n => [0xD6#8, n]
  | .rst_10 => [0xD7#8]
  | .ret_C => [0xD8#8]
  | .reti => [0xD9#8]
  | .jp_C_a16 addr => [0xDA#8, lowByte addr, highByte addr]
  | .call_C_a16 addr => [0xDC#8, lowByte addr, highByte addr]
  | .sbc_A_d8 n => [0xDE#8, n]
  | .rst_18 => [0xDF#8]
  | .ldh_atA8_A n => [0xE0#8, n]
  | .pop_HL => [0xE1#8]
  | .ld_atC_A => [0xE2#8]
  | .push_HL => [0xE5#8]
  | .and_d8 n => [0xE6#8, n]
  | .rst_20 => [0xE7#8]
  | .add_SP_e8 e => [0xE8#8, e]
  | .jp_HL => [0xE9#8]
  | .ld_atA16_A addr => [0xEA#8, lowByte addr, highByte addr]
  | .xor_d8 n => [0xEE#8, n]
  | .rst_28 => [0xEF#8]
  | .ldh_A_atA8 n => [0xF0#8, n]
  | .pop_AF => [0xF1#8]
  | .ld_A_atC => [0xF2#8]
  | .di => [0xF3#8]
  | .push_AF => [0xF5#8]
  | .or_d8 n => [0xF6#8, n]
  | .rst_30 => [0xF7#8]
  | .ld_HL_SPe8 e => [0xF8#8, e]
  | .ld_SP_HL => [0xF9#8]
  | .ld_A_atA16 addr => [0xFA#8, lowByte addr, highByte addr]
  | .ei => [0xFB#8]
  | .cp_d8 n => [0xFE#8, n]
  | .rst_38 => [0xFF#8]
  | .rlc_B => [0xCB#8, 0x00#8]
  | .rlc_C => [0xCB#8, 0x01#8]
  | .rlc_D => [0xCB#8, 0x02#8]
  | .rlc_E => [0xCB#8, 0x03#8]
  | .rlc_H => [0xCB#8, 0x04#8]
  | .rlc_L => [0xCB#8, 0x05#8]
  | .rlc_atHL => [0xCB#8, 0x06#8]
  | .rlc_A => [0xCB#8, 0x07#8]
  | .rrc_B => [0xCB#8, 0x08#8]
  | .rrc_C => [0xCB#8, 0x09#8]
  | .rrc_D => [0xCB#8, 0x0A#8]
  | .rrc_E => [0xCB#8, 0x0B#8]
  | .rrc_H => [0xCB#8, 0x0C#8]
  | .rrc_L => [0xCB#8, 0x0D#8]
  | .rrc_atHL => [0xCB#8, 0x0E#8]
  | .rrc_A => [0xCB#8, 0x0F#8]
  | .rl_B => [0xCB#8, 0x10#8]
  | .rl_C => [0xCB#8, 0x11#8]
  | .rl_D => [0xCB#8, 0x12#8]
  | .rl_E => [0xCB#8, 0x13#8]
  | .rl_H => [0xCB#8, 0x14#8]
  | .rl_L => [0xCB#8, 0x15#8]
  | .rl_atHL => [0xCB#8, 0x16#8]
  | .rl_A => [0xCB#8, 0x17#8]
  | .rr_B => [0xCB#8, 0x18#8]
  | .rr_C => [0xCB#8, 0x19#8]
  | .rr_D => [0xCB#8, 0x1A#8]
  | .rr_E => [0xCB#8, 0x1B#8]
  | .rr_H => [0xCB#8, 0x1C#8]
  | .rr_L => [0xCB#8, 0x1D#8]
  | .rr_atHL => [0xCB#8, 0x1E#8]
  | .rr_A => [0xCB#8, 0x1F#8]
  | .sla_B => [0xCB#8, 0x20#8]
  | .sla_C => [0xCB#8, 0x21#8]
  | .sla_D => [0xCB#8, 0x22#8]
  | .sla_E => [0xCB#8, 0x23#8]
  | .sla_H => [0xCB#8, 0x24#8]
  | .sla_L => [0xCB#8, 0x25#8]
  | .sla_atHL => [0xCB#8, 0x26#8]
  | .sla_A => [0xCB#8, 0x27#8]
  | .sra_B => [0xCB#8, 0x28#8]
  | .sra_C => [0xCB#8, 0x29#8]
  | .sra_D => [0xCB#8, 0x2A#8]
  | .sra_E => [0xCB#8, 0x2B#8]
  | .sra_H => [0xCB#8, 0x2C#8]
  | .sra_L => [0xCB#8, 0x2D#8]
  | .sra_atHL => [0xCB#8, 0x2E#8]
  | .sra_A => [0xCB#8, 0x2F#8]
  | .swap_B => [0xCB#8, 0x30#8]
  | .swap_C => [0xCB#8, 0x31#8]
  | .swap_D => [0xCB#8, 0x32#8]
  | .swap_E => [0xCB#8, 0x33#8]
  | .swap_H => [0xCB#8, 0x34#8]
  | .swap_L => [0xCB#8, 0x35#8]
  | .swap_atHL => [0xCB#8, 0x36#8]
  | .swap_A => [0xCB#8, 0x37#8]
  | .srl_B => [0xCB#8, 0x38#8]
  | .srl_C => [0xCB#8, 0x39#8]
  | .srl_D => [0xCB#8, 0x3A#8]
  | .srl_E => [0xCB#8, 0x3B#8]
  | .srl_H => [0xCB#8, 0x3C#8]
  | .srl_L => [0xCB#8, 0x3D#8]
  | .srl_atHL => [0xCB#8, 0x3E#8]
  | .srl_A => [0xCB#8, 0x3F#8]
  | .bit_0_B => [0xCB#8, 0x40#8]
  | .bit_0_C => [0xCB#8, 0x41#8]
  | .bit_0_D => [0xCB#8, 0x42#8]
  | .bit_0_E => [0xCB#8, 0x43#8]
  | .bit_0_H => [0xCB#8, 0x44#8]
  | .bit_0_L => [0xCB#8, 0x45#8]
  | .bit_0_atHL => [0xCB#8, 0x46#8]
  | .bit_0_A => [0xCB#8, 0x47#8]
  | .bit_1_B => [0xCB#8, 0x48#8]
  | .bit_1_C => [0xCB#8, 0x49#8]
  | .bit_1_D => [0xCB#8, 0x4A#8]
  | .bit_1_E => [0xCB#8, 0x4B#8]
  | .bit_1_H => [0xCB#8, 0x4C#8]
  | .bit_1_L => [0xCB#8, 0x4D#8]
  | .bit_1_atHL => [0xCB#8, 0x4E#8]
  | .bit_1_A => [0xCB#8, 0x4F#8]
  | .bit_2_B => [0xCB#8, 0x50#8]
  | .bit_2_C => [0xCB#8, 0x51#8]
  | .bit_2_D => [0xCB#8, 0x52#8]
  | .bit_2_E => [0xCB#8, 0x53#8]
  | .bit_2_H => [0xCB#8, 0x54#8]
  | .bit_2_L => [0xCB#8, 0x55#8]
  | .bit_2_atHL => [0xCB#8, 0x56#8]
  | .bit_2_A => [0xCB#8, 0x57#8]
  | .bit_3_B => [0xCB#8, 0x58#8]
  | .bit_3_C => [0xCB#8, 0x59#8]
  | .bit_3_D => [0xCB#8, 0x5A#8]
  | .bit_3_E => [0xCB#8, 0x5B#8]
  | .bit_3_H => [0xCB#8, 0x5C#8]
  | .bit_3_L => [0xCB#8, 0x5D#8]
  | .bit_3_atHL => [0xCB#8, 0x5E#8]
  | .bit_3_A => [0xCB#8, 0x5F#8]
  | .bit_4_B => [0xCB#8, 0x60#8]
  | .bit_4_C => [0xCB#8, 0x61#8]
  | .bit_4_D => [0xCB#8, 0x62#8]
  | .bit_4_E => [0xCB#8, 0x63#8]
  | .bit_4_H => [0xCB#8, 0x64#8]
  | .bit_4_L => [0xCB#8, 0x65#8]
  | .bit_4_atHL => [0xCB#8, 0x66#8]
  | .bit_4_A => [0xCB#8, 0x67#8]
  | .bit_5_B => [0xCB#8, 0x68#8]
  | .bit_5_C => [0xCB#8, 0x69#8]
  | .bit_5_D => [0xCB#8, 0x6A#8]
  | .bit_5_E => [0xCB#8, 0x6B#8]
  | .bit_5_H => [0xCB#8, 0x6C#8]
  | .bit_5_L => [0xCB#8, 0x6D#8]
  | .bit_5_atHL => [0xCB#8, 0x6E#8]
  | .bit_5_A => [0xCB#8, 0x6F#8]
  | .bit_6_B => [0xCB#8, 0x70#8]
  | .bit_6_C => [0xCB#8, 0x71#8]
  | .bit_6_D => [0xCB#8, 0x72#8]
  | .bit_6_E => [0xCB#8, 0x73#8]
  | .bit_6_H => [0xCB#8, 0x74#8]
  | .bit_6_L => [0xCB#8, 0x75#8]
  | .bit_6_atHL => [0xCB#8, 0x76#8]
  | .bit_6_A => [0xCB#8, 0x77#8]
  | .bit_7_B => [0xCB#8, 0x78#8]
  | .bit_7_C => [0xCB#8, 0x79#8]
  | .bit_7_D => [0xCB#8, 0x7A#8]
  | .bit_7_E => [0xCB#8, 0x7B#8]
  | .bit_7_H => [0xCB#8, 0x7C#8]
  | .bit_7_L => [0xCB#8, 0x7D#8]
  | .bit_7_atHL => [0xCB#8, 0x7E#8]
  | .bit_7_A => [0xCB#8, 0x7F#8]
  | .res_0_B => [0xCB#8, 0x80#8]
  | .res_0_C => [0xCB#8, 0x81#8]
  | .res_0_D => [0xCB#8, 0x82#8]
  | .res_0_E => [0xCB#8, 0x83#8]
  | .res_0_H => [0xCB#8, 0x84#8]
  | .res_0_L => [0xCB#8, 0x85#8]
  | .res_0_atHL => [0xCB#8, 0x86#8]
  | .res_0_A => [0xCB#8, 0x87#8]
  | .res_1_B => [0xCB#8, 0x88#8]
  | .res_1_C => [0xCB#8, 0x89#8]
  | .res_1_D => [0xCB#8, 0x8A#8]
  | .res_1_E => [0xCB#8, 0x8B#8]
  | .res_1_H => [0xCB#8, 0x8C#8]
  | .res_1_L => [0xCB#8, 0x8D#8]
  | .res_1_atHL => [0xCB#8, 0x8E#8]
  | .res_1_A => [0xCB#8, 0x8F#8]
  | .res_2_B => [0xCB#8, 0x90#8]
  | .res_2_C => [0xCB#8, 0x91#8]
  | .res_2_D => [0xCB#8, 0x92#8]
  | .res_2_E => [0xCB#8, 0x93#8]
  | .res_2_H => [0xCB#8, 0x94#8]
  | .res_2_L => [0xCB#8, 0x95#8]
  | .res_2_atHL => [0xCB#8, 0x96#8]
  | .res_2_A => [0xCB#8, 0x97#8]
  | .res_3_B => [0xCB#8, 0x98#8]
  | .res_3_C => [0xCB#8, 0x99#8]
  | .res_3_D => [0xCB#8, 0x9A#8]
  | .res_3_E => [0xCB#8, 0x9B#8]
  | .res_3_H => [0xCB#8, 0x9C#8]
  | .res_3_L => [0xCB#8, 0x9D#8]
  | .res_3_atHL => [0xCB#8, 0x9E#8]
  | .res_3_A => [0xCB#8, 0x9F#8]
  | .res_4_B => [0xCB#8, 0xA0#8]
  | .res_4_C => [0xCB#8, 0xA1#8]
  | .res_4_D => [0xCB#8, 0xA2#8]
  | .res_4_E => [0xCB#8, 0xA3#8]
  | .res_4_H => [0xCB#8, 0xA4#8]
  | .res_4_L => [0xCB#8, 0xA5#8]
  | .res_4_atHL => [0xCB#8, 0xA6#8]
  | .res_4_A => [0xCB#8, 0xA7#8]
  | .res_5_B => [0xCB#8, 0xA8#8]
  | .res_5_C => [0xCB#8, 0xA9#8]
  | .res_5_D => [0xCB#8, 0xAA#8]
  | .res_5_E => [0xCB#8, 0xAB#8]
  | .res_5_H => [0xCB#8, 0xAC#8]
  | .res_5_L => [0xCB#8, 0xAD#8]
  | .res_5_atHL => [0xCB#8, 0xAE#8]
  | .res_5_A => [0xCB#8, 0xAF#8]
  | .res_6_B => [0xCB#8, 0xB0#8]
  | .res_6_C => [0xCB#8, 0xB1#8]
  | .res_6_D => [0xCB#8, 0xB2#8]
  | .res_6_E => [0xCB#8, 0xB3#8]
  | .res_6_H => [0xCB#8, 0xB4#8]
  | .res_6_L => [0xCB#8, 0xB5#8]
  | .res_6_atHL => [0xCB#8, 0xB6#8]
  | .res_6_A => [0xCB#8, 0xB7#8]
  | .res_7_B => [0xCB#8, 0xB8#8]
  | .res_7_C => [0xCB#8, 0xB9#8]
  | .res_7_D => [0xCB#8, 0xBA#8]
  | .res_7_E => [0xCB#8, 0xBB#8]
  | .res_7_H => [0xCB#8, 0xBC#8]
  | .res_7_L => [0xCB#8, 0xBD#8]
  | .res_7_atHL => [0xCB#8, 0xBE#8]
  | .res_7_A => [0xCB#8, 0xBF#8]
  | .set_0_B => [0xCB#8, 0xC0#8]
  | .set_0_C => [0xCB#8, 0xC1#8]
  | .set_0_D => [0xCB#8, 0xC2#8]
  | .set_0_E => [0xCB#8, 0xC3#8]
  | .set_0_H => [0xCB#8, 0xC4#8]
  | .set_0_L => [0xCB#8, 0xC5#8]
  | .set_0_atHL => [0xCB#8, 0xC6#8]
  | .set_0_A => [0xCB#8, 0xC7#8]
  | .set_1_B => [0xCB#8, 0xC8#8]
  | .set_1_C => [0xCB#8, 0xC9#8]
  | .set_1_D => [0xCB#8, 0xCA#8]
  | .set_1_E => [0xCB#8, 0xCB#8]
  | .set_1_H => [0xCB#8, 0xCC#8]
  | .set_1_L => [0xCB#8, 0xCD#8]
  | .set_1_atHL => [0xCB#8, 0xCE#8]
  | .set_1_A => [0xCB#8, 0xCF#8]
  | .set_2_B => [0xCB#8, 0xD0#8]
  | .set_2_C => [0xCB#8, 0xD1#8]
  | .set_2_D => [0xCB#8, 0xD2#8]
  | .set_2_E => [0xCB#8, 0xD3#8]
  | .set_2_H => [0xCB#8, 0xD4#8]
  | .set_2_L => [0xCB#8, 0xD5#8]
  | .set_2_atHL => [0xCB#8, 0xD6#8]
  | .set_2_A => [0xCB#8, 0xD7#8]
  | .set_3_B => [0xCB#8, 0xD8#8]
  | .set_3_C => [0xCB#8, 0xD9#8]
  | .set_3_D => [0xCB#8, 0xDA#8]
  | .set_3_E => [0xCB#8, 0xDB#8]
  | .set_3_H => [0xCB#8, 0xDC#8]
  | .set_3_L => [0xCB#8, 0xDD#8]
  | .set_3_atHL => [0xCB#8, 0xDE#8]
  | .set_3_A => [0xCB#8, 0xDF#8]
  | .set_4_B => [0xCB#8, 0xE0#8]
  | .set_4_C => [0xCB#8, 0xE1#8]
  | .set_4_D => [0xCB#8, 0xE2#8]
  | .set_4_E => [0xCB#8, 0xE3#8]
  | .set_4_H => [0xCB#8, 0xE4#8]
  | .set_4_L => [0xCB#8, 0xE5#8]
  | .set_4_atHL => [0xCB#8, 0xE6#8]
  | .set_4_A => [0xCB#8, 0xE7#8]
  | .set_5_B => [0xCB#8, 0xE8#8]
  | .set_5_C => [0xCB#8, 0xE9#8]
  | .set_5_D => [0xCB#8, 0xEA#8]
  | .set_5_E => [0xCB#8, 0xEB#8]
  | .set_5_H => [0xCB#8, 0xEC#8]
  | .set_5_L => [0xCB#8, 0xED#8]
  | .set_5_atHL => [0xCB#8, 0xEE#8]
  | .set_5_A => [0xCB#8, 0xEF#8]
  | .set_6_B => [0xCB#8, 0xF0#8]
  | .set_6_C => [0xCB#8, 0xF1#8]
  | .set_6_D => [0xCB#8, 0xF2#8]
  | .set_6_E => [0xCB#8, 0xF3#8]
  | .set_6_H => [0xCB#8, 0xF4#8]
  | .set_6_L => [0xCB#8, 0xF5#8]
  | .set_6_atHL => [0xCB#8, 0xF6#8]
  | .set_6_A => [0xCB#8, 0xF7#8]
  | .set_7_B => [0xCB#8, 0xF8#8]
  | .set_7_C => [0xCB#8, 0xF9#8]
  | .set_7_D => [0xCB#8, 0xFA#8]
  | .set_7_E => [0xCB#8, 0xFB#8]
  | .set_7_H => [0xCB#8, 0xFC#8]
  | .set_7_L => [0xCB#8, 0xFD#8]
  | .set_7_atHL => [0xCB#8, 0xFE#8]
  | .set_7_A => [0xCB#8, 0xFF#8]
/-- The length in bytes (R120). -/
def Instr.length (i : Instr) : Nat := (encode i).length

/-! ## The opcode table's words -/

/-- The first three bytes of an instruction given as one word `w` of `nbits` bits in the table's numbering: its 16-bit
value is `byte0 * 256 + byte1` (R133), so byte 0 is bits 15 to 8 and byte 1 bits 7 to 0; bits above 15 are a further
16-bit word laid out the same way, and a word of one byte is that byte. Bits above `nbits` are 0 (log entry 11). -/
def bytesOfTableWord (nbits w : Nat) : List Byte :=
  let v := w % 2 ^ nbits
  if nbits ≤ 8 then [BitVec.ofNat 8 v, 0#8, 0#8]
  else if nbits ≤ 16 then [BitVec.ofNat 8 (v / 2 ^ 8), BitVec.ofNat 8 v, 0#8]
  else if nbits ≤ 24 then [BitVec.ofNat 8 (v / 2 ^ 8), BitVec.ofNat 8 v, BitVec.ofNat 8 (v / 2 ^ 16)]
  else [BitVec.ofNat 8 (v / 2 ^ 8), BitVec.ofNat 8 v, BitVec.ofNat 8 (v / 2 ^ 24)]

/-- The instruction the decoder reads from such a word. -/
def decodeTableWord (nbits w : Nat) : Option Instr :=
  match decode (bytesOfTableWord nbits w) with
  | .ok (i, _) => some i
  | .error _ => none

end Sys2Proof
end

