-- ==== Sys2Proof/Machine/Flags.lean ====
section
/-! DEFINITION. The flag register (R25) and every flag computation: the add and subtract functions (R212), the logic
results, increments and decrements (R237, R239), DAA (R241), the 16-bit additions (R194, R251), the rotates and shifts
(R260). -/

namespace Sys2Proof.Machine

/-- F from its four flags: Z N H C in bits 7 to 4, bits 3 to 0 zero (R25). -/
def packFlags (z n h c : Bool) : Byte :=
  BitVec.ofBool z ++ BitVec.ofBool n ++ BitVec.ofBool h ++ BitVec.ofBool c ++ 0#4

/-- What a write to F leaves in it: the low nibble ignores writes (R25). -/
def maskFlags (v : Byte) : Byte := v &&& 0xF0#8

/-- F.Z, F[7] (R25). -/
def Cpu.flagZ (c : Cpu) : Bool := c.f.getLsbD 7

/-- F.N, F[6] (R25). -/
def Cpu.flagN (c : Cpu) : Bool := c.f.getLsbD 6

/-- F.H, F[5] (R25). -/
def Cpu.flagH (c : Cpu) : Bool := c.f.getLsbD 5

/-- F.C, F[4] (R25). -/
def Cpu.flagC (c : Cpu) : Bool := c.f.getLsbD 4

/-- All four flags written (R25). -/
def Cpu.setFlags (z n h c : Bool) (cpu : Cpu) : Cpu := { cpu with f := packFlags z n h c }

/-- An 8-bit result with the four flags (R212). -/
structure Res8 where
  value : Byte
  z : Bool
  n : Bool
  h : Bool
  c : Bool
deriving DecidableEq, Repr

/-- A bit as a number (R16). -/
def bitNat (b : Bool) : Nat := if b then 1 else 0

/-- `add8(a, x, cin)` (R212). -/
def add8 (a x : Byte) (cin : Bool) : Res8 :=
  let s := a.toNat + x.toNat + bitNat cin
  let v := BitVec.ofNat 8 s
  { value := v
    z := decide (v = 0#8)
    n := false
    h := decide (a.toNat % 16 + x.toNat % 16 + bitNat cin > 0xF)
    c := decide (s > 0xFF) }

/-- `sub8(a, x, cin)` (R212). -/
def sub8 (a x : Byte) (cin : Bool) : Res8 :=
  let s : Int := (a.toNat : Int) - x.toNat - bitNat cin
  let v := BitVec.ofInt 8 s
  { value := v
    z := decide (v = 0#8)
    n := true
    h := decide (a.toNat % 16 < x.toNat % 16 + bitNat cin)
    c := decide (s < 0) }

/-- The result of a logic operation: Z from the result, N = 0, C = 0, H as given (R225, R228, R231). -/
def logic8 (v : Byte) (h : Bool) : Res8 := { value := v, z := decide (v = 0#8), n := false, h := h, c := false }

/-- The two-operand ALU operations (R213 to R236); CP's `value` is A itself, so that it leaves A (R234). -/
def alu8 (op : AluOp) (a x : Byte) (carry : Bool) : Res8 :=
  match op with
  | .add => add8 a x false
  | .adc => add8 a x carry
  | .sub => sub8 a x false
  | .sbc => sub8 a x carry
  | .and => logic8 (a &&& x) true
  | .xor => logic8 (a ^^^ x) false
  | .or => logic8 (a ||| x) false
  | .cp => { sub8 a x false with value := a }

/-- INC of `v` with the carry flag kept (R237). -/
def inc8 (v : Byte) (carry : Bool) : Res8 :=
  { value := v + 1#8, z := decide (v = 0xFF#8), n := false, h := decide (v.toNat % 16 = 0xF), c := carry }

/-- DEC of `v` with the carry flag kept (R239). -/
def dec8 (v : Byte) (carry : Bool) : Res8 :=
  { value := v - 1#8, z := decide (v = 0x01#8), n := true, h := decide (v.toNat % 16 = 0x0), c := carry }

/-- DAA of A with the flags N, H, C (R241). -/
def daa8 (a : Byte) (n h c : Bool) : Res8 :=
  if n then
    let adj : Byte := (if h then 0x06#8 else 0x00#8) ||| (if c then 0x60#8 else 0x00#8)
    let v := a - adj
    { value := v, z := decide (v = 0#8), n := true, h := false, c := c }
  else
    let low := h || decide (a.toNat % 16 > 9)
    let high := c || decide (a.toNat > 0x99)
    let adj : Byte := (if low then 0x06#8 else 0x00#8) ||| (if high then 0x60#8 else 0x00#8)
    let v := a + adj
    { value := v, z := decide (v = 0#8), n := false, h := false, c := high }

/-- H and C of `ADD HL,rr`: carries out of bits 11 and 15 (R251). -/
def add16H (a b : Word) : Bool := decide (a.toNat % 0x1000 + b.toNat % 0x1000 > 0xFFF)

/-- See `add16H` (R251). -/
def add16C (a b : Word) : Bool := decide (a.toNat + b.toNat > 0xFFFF)

/-- H of `ADD SP,e8` and `LD HL,SP+e8`: carry out of bit 3 of the unsigned low bytes (R194, R254). -/
def addSpH (sp : Word) (e : Byte) : Bool := decide (sp.toNat % 16 + e.toNat % 16 > 0xF)

/-- C of the same: carry out of bit 7 (R194, R254). -/
def addSpC (sp : Word) (e : Byte) : Bool := decide (sp.toNat % 256 + e.toNat > 0xFF)

/-- The eight one-bit functions: the result and the carry out (R260). -/
def shift8 (op : ShiftOp) (v : Byte) (cin : Bool) : Byte × Bool :=
  match op with
  | .rlc => ((v <<< 1) ||| (BitVec.ofBool (v.getLsbD 7)).setWidth 8, v.getLsbD 7)
  | .rrc => ((v >>> 1) ||| ((BitVec.ofBool (v.getLsbD 0)).setWidth 8 <<< 7), v.getLsbD 0)
  | .rl => ((v <<< 1) ||| (BitVec.ofBool cin).setWidth 8, v.getLsbD 7)
  | .rr => ((v >>> 1) ||| ((BitVec.ofBool cin).setWidth 8 <<< 7), v.getLsbD 0)
  | .sla => (v <<< 1, v.getLsbD 7)
  | .sra => ((v >>> 1) ||| (v &&& 0x80#8), v.getLsbD 0)
  | .swap => (v.extractLsb' 0 4 ++ v.extractLsb' 4 4, false)
  | .srl => (v >>> 1, v.getLsbD 0)

/-- A CB-page rotate or shift with its flags: Z from the result, N = H = 0, C the carry out (R265 to R280). -/
def shiftRes (op : ShiftOp) (v : Byte) (cin : Bool) : Res8 :=
  let r := shift8 op v cin
  { value := r.1, z := decide (r.1 = 0#8), n := false, h := false, c := r.2 }

/-- An accumulator rotate with its flags: Z = 0 always (R261 to R264). -/
def rotateARes (op : ShiftOp) (v : Byte) (cin : Bool) : Res8 := { shiftRes op v cin with z := false }

/-- The flags of a result written to F. -/
def Cpu.setResFlags (r : Res8) (cpu : Cpu) : Cpu := cpu.setFlags r.z r.n r.h r.c

/-- `cc[c]` (R17). -/
def Cpu.holds (cpu : Cpu) : Cond → Bool
  | .nz => !cpu.flagZ
  | .z => cpu.flagZ
  | .nc => !cpu.flagC
  | .c => cpu.flagC

end Sys2Proof.Machine
end

