-- ==== Sys2Proof/Machine/Operands.lean ====
section
/-! DEFINITION. Every operand form: the 8-bit registers, the pairs as views of them (R22), the stack pairs (R123), the
signed displacement (R16, R124), the high page address (R124), and a bit of a byte (R281 to R286). -/

namespace Sys2Proof.Machine

/-- The register `r8[i]` (R17). -/
def Cpu.reg (c : Cpu) : Reg8 → Byte
  | .b => c.b
  | .c => c.c
  | .d => c.d
  | .e => c.e
  | .h => c.h
  | .l => c.l
  | .a => c.a

/-- A write to the register `r8[i]` (R17). -/
def Cpu.setReg (r : Reg8) (v : Byte) (c : Cpu) : Cpu :=
  match r with
  | .b => { c with b := v }
  | .c => { c with c := v }
  | .d => { c with d := v }
  | .e => { c with e := v }
  | .h => { c with h := v }
  | .l => { c with l := v }
  | .a => { c with a := v }

/-- BC = B:C (R22). -/
def Cpu.bc (c : Cpu) : Word := hiLo c.b c.c

/-- DE = D:E (R22). -/
def Cpu.de (c : Cpu) : Word := hiLo c.d c.e

/-- HL = H:L (R22). -/
def Cpu.hl (c : Cpu) : Word := hiLo c.h c.l

/-- `HL <- v` (R22). -/
def Cpu.setHL (v : Word) (c : Cpu) : Cpu := { c with h := highByte v, l := lowByte v }

/-- The pair `r16[p]` (R17, R22). -/
def Cpu.pair (c : Cpu) : Pair → Word
  | .bc => c.bc
  | .de => c.de
  | .hl => c.hl
  | .sp => c.sp

/-- A write to the pair `r16[p]` (R17, R22). -/
def Cpu.setPair (p : Pair) (v : Word) (c : Cpu) : Cpu :=
  match p with
  | .bc => { c with b := highByte v, c := lowByte v }
  | .de => { c with d := highByte v, e := lowByte v }
  | .hl => c.setHL v
  | .sp => { c with sp := v }

/-- The pair `r16stk[p]`: AF reads F with its low nibble zero (R22, R25, R195). -/
def Cpu.stkPair (c : Cpu) : StkPair → Word
  | .bc => c.bc
  | .de => c.de
  | .hl => c.hl
  | .af => hiLo c.a (maskFlags c.f)

/-- A write to the pair `r16stk[p]`: `AF <- v` masks F (R22, R197). -/
def Cpu.setStkPair (p : StkPair) (v : Word) (c : Cpu) : Cpu :=
  match p with
  | .bc => { c with b := highByte v, c := lowByte v }
  | .de => { c with d := highByte v, e := lowByte v }
  | .hl => c.setHL v
  | .af => { c with a := highByte v, f := maskFlags (lowByte v) }

/-- `sext8(e)` as a 16-bit value (R16, R124). -/
def sext8 (e : Byte) : Word := e.signExtend 16

/-- `0xFF00 + zext16(n)` (R124). -/
def highPage (n : Byte) : Word := hiLo 0xFF#8 n

/-- Bit b cleared (R283). -/
def clearBit (v : Byte) (b : Fin 8) : Byte := v &&& ~~~(1#8 <<< b.val)

/-- Bit b set (R285). -/
def assertBit (v : Byte) (b : Fin 8) : Byte := v ||| (1#8 <<< b.val)

end Sys2Proof.Machine
end

