-- ==== Sys2Proof/Machine/Ops.lean ====
section
/-! DEFINITION. The operations every rule is written with (R18): `Idle`, `MemRead`, `MemWrite`, `Fetch8`, `Push16`,
`Pop16`; taking an interrupt, `ServiceInterrupt` (R351), and the return beside it (R298, R300); the host's InputLatch
refresh (R367). They are functions of the state: no access of this machine faults (R343). -/

namespace Sys2Proof.Machine

/-- The processor's registers changed. -/
def State.mapCpu (g : Cpu → Cpu) (s : State) : State := { s with cpu := g s.cpu }

/-- The units changed. -/
def State.mapUnits (g : Units → Units) (s : State) : State := { s with units := g s.units }

/-- `Idle()`: four ticks (R76). -/
def State.idle (s : State) : State := s.mapUnits (ticks 4)

/-- The byte a read at `addr` transfers at this moment. -/
def State.peek (s : State) (addr : Word) : Byte := busRead s.cfg s.outside.latch s.units addr

/-- The byte `MemRead(addr, 1)` returns: the transfer after the four ticks (R74). The state it leaves is `s.idle`,
since no read has a side effect on what it reads (R96). -/
def State.readByte (s : State) (addr : Word) : Byte := s.idle.peek addr

/-- `MemWrite(addr, 1, v)`: four ticks, then the transfer (R75). -/
def State.writeByte (addr : Word) (v : Byte) (s : State) : State := s.idle.mapUnits (busWrite s.cfg addr v)

/-- `Fetch8()`'s state: four ticks and `PC <- PC +16 1` (R18). The byte is `s.readByte s.cpu.pc`. -/
def State.fetched (s : State) : State := s.idle.mapCpu fun c => { c with pc := c.pc + 1#16 }

/-- `SP <- SP -16 1; MemWrite(SP, 1, v)`, half of `Push16` (R18). -/
def State.pushByte (v : Byte) (s : State) : State :=
  let sp := s.cpu.sp - 1#16
  (s.mapCpu fun c => { c with sp := sp }).writeByte sp v

/-- `Push16(v)`: the high byte first, at the higher address (R18). -/
def State.push16 (v : Word) (s : State) : State := (s.pushByte (highByte v)).pushByte (lowByte v)

/-- `SP <- SP +16 1` after a read at SP, half of `Pop16` (R18). -/
def State.popped (s : State) : State := s.idle.mapCpu fun c => { c with sp := c.sp + 1#16 }

/-- The value of `Pop16()`: the low byte first (R18). -/
def State.popValue (s : State) : Word := hiLo (s.popped.readByte s.popped.cpu.sp) (s.readByte s.cpu.sp)

/-- The state `Pop16()` leaves (R18). -/
def State.pop16 (s : State) : State := s.popped.popped

/-- `PC <- addr`. -/
def State.jump (addr : Word) (s : State) : State := s.mapCpu fun c => { c with pc := addr }

/-- `Idle(); Push16(PC); PC <- addr`: what CALL and RST do after their operand (R296, R305). -/
def State.callTo (addr : Word) (s : State) : State := (s.idle.push16 s.cpu.pc).jump addr

/-- `addr <- Pop16(); PC <- addr; Idle()`: the return (R298). -/
def State.returnFrom (s : State) : State := (s.pop16.jump s.popValue).idle

/-- The return from an interrupt: the return, then `IME <- 1` at once (R300, R354). -/
def State.returnFromInterrupt (s : State) : State := s.returnFrom.mapCpu fun c => { c with ime := true }

/-- The vector of interrupt k (R352). -/
def vector (k : Nat) : Word := BitVec.ofNat 16 (0x0040 + 8 * k)

/-- `IF[k] <- 0` (R351). -/
def clearRequest (k : Nat) (u : Units) : Units :=
  { u with timer := { u.timer with intFlag := u.timer.intFlag &&& ~~~(1#5 <<< k) } }

/-- `ServiceInterrupt()`, taking interrupt k (R351): k was chosen before the pushes. -/
def State.serviceInterrupt (k : Nat) (s : State) : State :=
  let woken := (s.mapCpu fun c => { c with mode := .running }).idle.idle
  let pushed := woken.push16 s.cpu.pc
  let entered := pushed.mapCpu fun c => { c with ime := false, imePending := false, pc := vector k }
  (entered.mapUnits (clearRequest k)).idle

/-- Some line of the joypad nibble falls from 1 to 0 (R367). -/
def lineFalls (before after : BitVec 4) : Bool := decide (before &&& ~~~after ≠ 0#4)

/-- The host replaces the InputLatch, with the joypad interrupt rule (R367). -/
def State.refreshLatch (new : InputLatch) (s : State) : State :=
  let sel := s.units.bus.joypSelect
  let falls := lineFalls (joypNibble s.outside.latch sel) (joypNibble new sel)
  let s := { s with outside := { s.outside with latch := new } }
  if falls then s.mapUnits (requestInterrupt 4) else s

end Sys2Proof.Machine
end

