-- ==== Sys2Proof/Machine/Alu16.lean ====
section
/-! DEFINITION. The 16-bit arithmetic instructions (43_alu16.md): one operation per rule on the state after fetching,
then one meaning per instruction. -/

namespace Sys2Proof.Machine

/-- R251: Z is not changed. -/
def opAddHL (src : Pair) (s : State) : State :=
  (s.mapCpu fun c =>
    let a := c.hl
    let b := c.pair src
    (c.setHL (a + b)).setFlags c.flagZ false (add16H a b) (add16C a b)).idle

/-- R252. -/
def opIncPair (r : Pair) (s : State) : State := (s.mapCpu fun c => c.setPair r (c.pair r + 1#16)).idle

/-- R253. -/
def opDecPair (r : Pair) (s : State) : State := (s.mapCpu fun c => c.setPair r (c.pair r - 1#16)).idle

/-- R254. -/
def opAddSPe (e : Byte) (s : State) : State :=
  s.idle.idle.mapCpu fun c =>
    { c with sp := c.sp + sext8 e }.setFlags false false (addSpH c.sp e) (addSpC c.sp e)

/-- `INC BC` (R252). -/
def execInc_BC (s : State) : Result := .next (opIncPair .bc s)

/-- `ADD HL,BC` (R251). -/
def execAdd_HL_BC (s : State) : Result := .next (opAddHL .bc s)

/-- `DEC BC` (R253). -/
def execDec_BC (s : State) : Result := .next (opDecPair .bc s)

/-- `INC DE` (R252). -/
def execInc_DE (s : State) : Result := .next (opIncPair .de s)

/-- `ADD HL,DE` (R251). -/
def execAdd_HL_DE (s : State) : Result := .next (opAddHL .de s)

/-- `DEC DE` (R253). -/
def execDec_DE (s : State) : Result := .next (opDecPair .de s)

/-- `INC HL` (R252). -/
def execInc_HL (s : State) : Result := .next (opIncPair .hl s)

/-- `ADD HL,HL` (R251). -/
def execAdd_HL_HL (s : State) : Result := .next (opAddHL .hl s)

/-- `DEC HL` (R253). -/
def execDec_HL (s : State) : Result := .next (opDecPair .hl s)

/-- `INC SP` (R252). -/
def execInc_SP (s : State) : Result := .next (opIncPair .sp s)

/-- `ADD HL,SP` (R251). -/
def execAdd_HL_SP (s : State) : Result := .next (opAddHL .sp s)

/-- `DEC SP` (R253). -/
def execDec_SP (s : State) : Result := .next (opDecPair .sp s)

/-- `ADD SP,e8` (R254). -/
def execAdd_SP_e8 (e : Byte) (s : State) : Result := .next (opAddSPe e s)

end Sys2Proof.Machine
end

