-- ==== Sys2Proof/Machine/Alu8.lean ====
section
/-! DEFINITION. The 8-bit arithmetic and logic instructions (42_alu8.md): one operation per rule on the state after
fetching, then one meaning per instruction. -/

namespace Sys2Proof.Machine

/-- `(A, F) <- op(A, x, F.C)` (R213 to R236). -/
def Cpu.alu (op : AluOp) (x : Byte) (c : Cpu) : Cpu :=
  let r := alu8 op c.a x c.flagC
  { c with a := r.value }.setResFlags r

/-- R213, R216, R219, R222, R225, R228, R231, R234. -/
def opAluReg (op : AluOp) (src : Reg8) (s : State) : State := s.mapCpu fun c => c.alu op (c.reg src)

/-- R214, R217, R220, R223, R226, R229, R232, R235. -/
def opAluHL (op : AluOp) (s : State) : State := s.idle.mapCpu (Cpu.alu op (s.readByte s.cpu.hl))

/-- R215, R218, R221, R224, R227, R230, R233, R236. -/
def opAluImm (op : AluOp) (n : Byte) (s : State) : State := s.mapCpu (Cpu.alu op n)

/-- A register replaced by a function of its value and the carry, with the flags of the result. -/
def updateReg (f : Byte → Bool → Res8) (r : Reg8) (s : State) : State :=
  s.mapCpu fun c =>
    let x := f (c.reg r) c.flagC
    (c.setReg r x.value).setResFlags x

/-- The byte at HL replaced by a function of its value and the carry, with the flags of the result: a read, then a
write one machine cycle later (R95). -/
def updateAtHL (f : Byte → Bool → Res8) (s : State) : State :=
  let x := f (s.readByte s.cpu.hl) s.cpu.flagC
  (s.idle.writeByte s.cpu.hl x.value).mapCpu (Cpu.setResFlags x)

/-- R237. -/
def opIncReg (r : Reg8) (s : State) : State := updateReg inc8 r s

/-- R238. -/
def opIncHL (s : State) : State := updateAtHL inc8 s

/-- R239. -/
def opDecReg (r : Reg8) (s : State) : State := updateReg dec8 r s

/-- R240. -/
def opDecHL (s : State) : State := updateAtHL dec8 s

/-- R241. -/
def opDaa (s : State) : State :=
  s.mapCpu fun c =>
    let r := daa8 c.a c.flagN c.flagH c.flagC
    { c with a := r.value }.setResFlags r

/-- R242. -/
def opCpl (s : State) : State := s.mapCpu fun c => { c with a := ~~~c.a }.setFlags c.flagZ true true c.flagC

/-- R243. -/
def opScf (s : State) : State := s.mapCpu fun c => c.setFlags c.flagZ false false true

/-- R244. -/
def opCcf (s : State) : State := s.mapCpu fun c => c.setFlags c.flagZ false false (!c.flagC)

/-- `INC B` (R237). -/
def execInc_B (s : State) : Result := .next (opIncReg .b s)

/-- `DEC B` (R239). -/
def execDec_B (s : State) : Result := .next (opDecReg .b s)

/-- `INC C` (R237). -/
def execInc_C (s : State) : Result := .next (opIncReg .c s)

/-- `DEC C` (R239). -/
def execDec_C (s : State) : Result := .next (opDecReg .c s)

/-- `INC D` (R237). -/
def execInc_D (s : State) : Result := .next (opIncReg .d s)

/-- `DEC D` (R239). -/
def execDec_D (s : State) : Result := .next (opDecReg .d s)

/-- `INC E` (R237). -/
def execInc_E (s : State) : Result := .next (opIncReg .e s)

/-- `DEC E` (R239). -/
def execDec_E (s : State) : Result := .next (opDecReg .e s)

/-- `INC H` (R237). -/
def execInc_H (s : State) : Result := .next (opIncReg .h s)

/-- `DEC H` (R239). -/
def execDec_H (s : State) : Result := .next (opDecReg .h s)

/-- `DAA` (R241). -/
def execDaa (s : State) : Result := .next (opDaa s)

/-- `INC L` (R237). -/
def execInc_L (s : State) : Result := .next (opIncReg .l s)

/-- `DEC L` (R239). -/
def execDec_L (s : State) : Result := .next (opDecReg .l s)

/-- `CPL` (R242). -/
def execCpl (s : State) : Result := .next (opCpl s)

/-- `INC (HL)` (R238). -/
def execInc_atHL (s : State) : Result := .next (opIncHL s)

/-- `DEC (HL)` (R240). -/
def execDec_atHL (s : State) : Result := .next (opDecHL s)

/-- `SCF` (R243). -/
def execScf (s : State) : Result := .next (opScf s)

/-- `INC A` (R237). -/
def execInc_A (s : State) : Result := .next (opIncReg .a s)

/-- `DEC A` (R239). -/
def execDec_A (s : State) : Result := .next (opDecReg .a s)

/-- `CCF` (R244). -/
def execCcf (s : State) : Result := .next (opCcf s)

/-- `ADD A,B` (R213). -/
def execAdd_A_B (s : State) : Result := .next (opAluReg .add .b s)

/-- `ADD A,C` (R213). -/
def execAdd_A_C (s : State) : Result := .next (opAluReg .add .c s)

/-- `ADD A,D` (R213). -/
def execAdd_A_D (s : State) : Result := .next (opAluReg .add .d s)

/-- `ADD A,E` (R213). -/
def execAdd_A_E (s : State) : Result := .next (opAluReg .add .e s)

/-- `ADD A,H` (R213). -/
def execAdd_A_H (s : State) : Result := .next (opAluReg .add .h s)

/-- `ADD A,L` (R213). -/
def execAdd_A_L (s : State) : Result := .next (opAluReg .add .l s)

/-- `ADD A,(HL)` (R214). -/
def execAdd_A_atHL (s : State) : Result := .next (opAluHL .add s)

/-- `ADD A,A` (R213). -/
def execAdd_A_A (s : State) : Result := .next (opAluReg .add .a s)

/-- `ADC A,B` (R216). -/
def execAdc_A_B (s : State) : Result := .next (opAluReg .adc .b s)

/-- `ADC A,C` (R216). -/
def execAdc_A_C (s : State) : Result := .next (opAluReg .adc .c s)

/-- `ADC A,D` (R216). -/
def execAdc_A_D (s : State) : Result := .next (opAluReg .adc .d s)

/-- `ADC A,E` (R216). -/
def execAdc_A_E (s : State) : Result := .next (opAluReg .adc .e s)

/-- `ADC A,H` (R216). -/
def execAdc_A_H (s : State) : Result := .next (opAluReg .adc .h s)

/-- `ADC A,L` (R216). -/
def execAdc_A_L (s : State) : Result := .next (opAluReg .adc .l s)

/-- `ADC A,(HL)` (R217). -/
def execAdc_A_atHL (s : State) : Result := .next (opAluHL .adc s)

/-- `ADC A,A` (R216). -/
def execAdc_A_A (s : State) : Result := .next (opAluReg .adc .a s)

/-- `SUB B` (R219). -/
def execSub_B (s : State) : Result := .next (opAluReg .sub .b s)

/-- `SUB C` (R219). -/
def execSub_C (s : State) : Result := .next (opAluReg .sub .c s)

/-- `SUB D` (R219). -/
def execSub_D (s : State) : Result := .next (opAluReg .sub .d s)

/-- `SUB E` (R219). -/
def execSub_E (s : State) : Result := .next (opAluReg .sub .e s)

/-- `SUB H` (R219). -/
def execSub_H (s : State) : Result := .next (opAluReg .sub .h s)

/-- `SUB L` (R219). -/
def execSub_L (s : State) : Result := .next (opAluReg .sub .l s)

/-- `SUB (HL)` (R220). -/
def execSub_atHL (s : State) : Result := .next (opAluHL .sub s)

/-- `SUB A` (R219). -/
def execSub_A (s : State) : Result := .next (opAluReg .sub .a s)

/-- `SBC A,B` (R222). -/
def execSbc_A_B (s : State) : Result := .next (opAluReg .sbc .b s)

/-- `SBC A,C` (R222). -/
def execSbc_A_C (s : State) : Result := .next (opAluReg .sbc .c s)

/-- `SBC A,D` (R222). -/
def execSbc_A_D (s : State) : Result := .next (opAluReg .sbc .d s)

/-- `SBC A,E` (R222). -/
def execSbc_A_E (s : State) : Result := .next (opAluReg .sbc .e s)

/-- `SBC A,H` (R222). -/
def execSbc_A_H (s : State) : Result := .next (opAluReg .sbc .h s)

/-- `SBC A,L` (R222). -/
def execSbc_A_L (s : State) : Result := .next (opAluReg .sbc .l s)

/-- `SBC A,(HL)` (R223). -/
def execSbc_A_atHL (s : State) : Result := .next (opAluHL .sbc s)

/-- `SBC A,A` (R222). -/
def execSbc_A_A (s : State) : Result := .next (opAluReg .sbc .a s)

/-- `AND B` (R225). -/
def execAnd_B (s : State) : Result := .next (opAluReg .and .b s)

/-- `AND C` (R225). -/
def execAnd_C (s : State) : Result := .next (opAluReg .and .c s)

/-- `AND D` (R225). -/
def execAnd_D (s : State) : Result := .next (opAluReg .and .d s)

/-- `AND E` (R225). -/
def execAnd_E (s : State) : Result := .next (opAluReg .and .e s)

/-- `AND H` (R225). -/
def execAnd_H (s : State) : Result := .next (opAluReg .and .h s)

/-- `AND L` (R225). -/
def execAnd_L (s : State) : Result := .next (opAluReg .and .l s)

/-- `AND (HL)` (R226). -/
def execAnd_atHL (s : State) : Result := .next (opAluHL .and s)

/-- `AND A` (R225). -/
def execAnd_A (s : State) : Result := .next (opAluReg .and .a s)

/-- `XOR B` (R228). -/
def execXor_B (s : State) : Result := .next (opAluReg .xor .b s)

/-- `XOR C` (R228). -/
def execXor_C (s : State) : Result := .next (opAluReg .xor .c s)

/-- `XOR D` (R228). -/
def execXor_D (s : State) : Result := .next (opAluReg .xor .d s)

/-- `XOR E` (R228). -/
def execXor_E (s : State) : Result := .next (opAluReg .xor .e s)

/-- `XOR H` (R228). -/
def execXor_H (s : State) : Result := .next (opAluReg .xor .h s)

/-- `XOR L` (R228). -/
def execXor_L (s : State) : Result := .next (opAluReg .xor .l s)

/-- `XOR (HL)` (R229). -/
def execXor_atHL (s : State) : Result := .next (opAluHL .xor s)

/-- `XOR A` (R228). -/
def execXor_A (s : State) : Result := .next (opAluReg .xor .a s)

/-- `OR B` (R231). -/
def execOr_B (s : State) : Result := .next (opAluReg .or .b s)

/-- `OR C` (R231). -/
def execOr_C (s : State) : Result := .next (opAluReg .or .c s)

/-- `OR D` (R231). -/
def execOr_D (s : State) : Result := .next (opAluReg .or .d s)

/-- `OR E` (R231). -/
def execOr_E (s : State) : Result := .next (opAluReg .or .e s)

/-- `OR H` (R231). -/
def execOr_H (s : State) : Result := .next (opAluReg .or .h s)

/-- `OR L` (R231). -/
def execOr_L (s : State) : Result := .next (opAluReg .or .l s)

/-- `OR (HL)` (R232). -/
def execOr_atHL (s : State) : Result := .next (opAluHL .or s)

/-- `OR A` (R231). -/
def execOr_A (s : State) : Result := .next (opAluReg .or .a s)

/-- `CP B` (R234). -/
def execCp_B (s : State) : Result := .next (opAluReg .cp .b s)

/-- `CP C` (R234). -/
def execCp_C (s : State) : Result := .next (opAluReg .cp .c s)

/-- `CP D` (R234). -/
def execCp_D (s : State) : Result := .next (opAluReg .cp .d s)

/-- `CP E` (R234). -/
def execCp_E (s : State) : Result := .next (opAluReg .cp .e s)

/-- `CP H` (R234). -/
def execCp_H (s : State) : Result := .next (opAluReg .cp .h s)

/-- `CP L` (R234). -/
def execCp_L (s : State) : Result := .next (opAluReg .cp .l s)

/-- `CP (HL)` (R235). -/
def execCp_atHL (s : State) : Result := .next (opAluHL .cp s)

/-- `CP A` (R234). -/
def execCp_A (s : State) : Result := .next (opAluReg .cp .a s)

/-- `ADD A,d8` (R215). -/
def execAdd_A_d8 (n : Byte) (s : State) : Result := .next (opAluImm .add n s)

/-- `ADC A,d8` (R218). -/
def execAdc_A_d8 (n : Byte) (s : State) : Result := .next (opAluImm .adc n s)

/-- `SUB d8` (R221). -/
def execSub_d8 (n : Byte) (s : State) : Result := .next (opAluImm .sub n s)

/-- `SBC A,d8` (R224). -/
def execSbc_A_d8 (n : Byte) (s : State) : Result := .next (opAluImm .sbc n s)

/-- `AND d8` (R227). -/
def execAnd_d8 (n : Byte) (s : State) : Result := .next (opAluImm .and n s)

/-- `XOR d8` (R230). -/
def execXor_d8 (n : Byte) (s : State) : Result := .next (opAluImm .xor n s)

/-- `OR d8` (R233). -/
def execOr_d8 (n : Byte) (s : State) : Result := .next (opAluImm .or n s)

/-- `CP d8` (R236). -/
def execCp_d8 (n : Byte) (s : State) : Result := .next (opAluImm .cp n s)

end Sys2Proof.Machine
end

