-- ==== Sys2Proof/Machine/ControlFlow.lean ====
section
/-! DEFINITION. The control-flow instructions (45_control_flow.md): one operation per rule on the state after fetching,
where PC is the address of the next instruction, then one meaning per instruction. -/

namespace Sys2Proof.Machine

/-- R291. -/
def opJp (addr : Word) (s : State) : State := (s.jump addr).idle

/-- R292. -/
def opJpCond (cc : Cond) (addr : Word) (s : State) : State := if s.cpu.holds cc then (s.jump addr).idle else s

/-- R293. -/
def opJpHL (s : State) : State := s.jump s.cpu.hl

/-- R294. -/
def opJr (e : Byte) (s : State) : State := (s.jump (s.cpu.pc + sext8 e)).idle

/-- R295. -/
def opJrCond (cc : Cond) (e : Byte) (s : State) : State :=
  if s.cpu.holds cc then (s.jump (s.cpu.pc + sext8 e)).idle else s

/-- R296. -/
def opCall (addr : Word) (s : State) : State := s.callTo addr

/-- R297. -/
def opCallCond (cc : Cond) (addr : Word) (s : State) : State := if s.cpu.holds cc then s.callTo addr else s

/-- R298. -/
def opRet (s : State) : State := s.returnFrom

/-- R299: the first idle cycle is paid either way. -/
def opRetCond (cc : Cond) (s : State) : State := if s.cpu.holds cc then s.idle.returnFrom else s.idle

/-- R300. -/
def opReti (s : State) : State := s.returnFromInterrupt

/-- R305: the target is 8 * y. -/
def opRst (y : Fin 8) (s : State) : State := s.callTo (BitVec.ofNat 16 (8 * y.val))

/-- `JR e8` (R294). -/
def execJr_e8 (e : Byte) (s : State) : Result := .next (opJr e s)

/-- `JR NZ,e8` (R295). -/
def execJr_NZ_e8 (e : Byte) (s : State) : Result := .next (opJrCond .nz e s)

/-- `JR Z,e8` (R295). -/
def execJr_Z_e8 (e : Byte) (s : State) : Result := .next (opJrCond .z e s)

/-- `JR NC,e8` (R295). -/
def execJr_NC_e8 (e : Byte) (s : State) : Result := .next (opJrCond .nc e s)

/-- `JR C,e8` (R295). -/
def execJr_C_e8 (e : Byte) (s : State) : Result := .next (opJrCond .c e s)

/-- `RET NZ` (R299). -/
def execRet_NZ (s : State) : Result := .next (opRetCond .nz s)

/-- `JP NZ,a16` (R292). -/
def execJp_NZ_a16 (addr : Word) (s : State) : Result := .next (opJpCond .nz addr s)

/-- `JP a16` (R291). -/
def execJp_a16 (addr : Word) (s : State) : Result := .next (opJp addr s)

/-- `CALL NZ,a16` (R297). -/
def execCall_NZ_a16 (addr : Word) (s : State) : Result := .next (opCallCond .nz addr s)

/-- `RST 0x00` (R305). -/
def execRst_00 (s : State) : Result := .next (opRst 0 s)

/-- `RET Z` (R299). -/
def execRet_Z (s : State) : Result := .next (opRetCond .z s)

/-- `RET` (R298). -/
def execRet (s : State) : Result := .next (opRet s)

/-- `JP Z,a16` (R292). -/
def execJp_Z_a16 (addr : Word) (s : State) : Result := .next (opJpCond .z addr s)

/-- `CALL Z,a16` (R297). -/
def execCall_Z_a16 (addr : Word) (s : State) : Result := .next (opCallCond .z addr s)

/-- `CALL a16` (R296). -/
def execCall_a16 (addr : Word) (s : State) : Result := .next (opCall addr s)

/-- `RST 0x08` (R305). -/
def execRst_08 (s : State) : Result := .next (opRst 1 s)

/-- `RET NC` (R299). -/
def execRet_NC (s : State) : Result := .next (opRetCond .nc s)

/-- `JP NC,a16` (R292). -/
def execJp_NC_a16 (addr : Word) (s : State) : Result := .next (opJpCond .nc addr s)

/-- `CALL NC,a16` (R297). -/
def execCall_NC_a16 (addr : Word) (s : State) : Result := .next (opCallCond .nc addr s)

/-- `RST 0x10` (R305). -/
def execRst_10 (s : State) : Result := .next (opRst 2 s)

/-- `RET C` (R299). -/
def execRet_C (s : State) : Result := .next (opRetCond .c s)

/-- `RETI` (R300). -/
def execReti (s : State) : Result := .next (opReti s)

/-- `JP C,a16` (R292). -/
def execJp_C_a16 (addr : Word) (s : State) : Result := .next (opJpCond .c addr s)

/-- `CALL C,a16` (R297). -/
def execCall_C_a16 (addr : Word) (s : State) : Result := .next (opCallCond .c addr s)

/-- `RST 0x18` (R305). -/
def execRst_18 (s : State) : Result := .next (opRst 3 s)

/-- `RST 0x20` (R305). -/
def execRst_20 (s : State) : Result := .next (opRst 4 s)

/-- `JP HL` (R293). -/
def execJp_HL (s : State) : Result := .next (opJpHL s)

/-- `RST 0x28` (R305). -/
def execRst_28 (s : State) : Result := .next (opRst 5 s)

/-- `RST 0x30` (R305). -/
def execRst_30 (s : State) : Result := .next (opRst 6 s)

/-- `RST 0x38` (R305). -/
def execRst_38 (s : State) : Result := .next (opRst 7 s)

end Sys2Proof.Machine
end

