-- ==== Sys2Proof/Machine/CpuControl.lean ====
section
/-! DEFINITION. The processor control instructions and the undefined opcodes (46_cpu_control.md): one operation per rule
on the state after fetching, then one meaning per instruction. -/

namespace Sys2Proof.Machine

/-- R322. -/
def opNop (s : State) : State := s

/-- R323. -/
def opHalt (s : State) : State := s.mapCpu fun c => { c with mode := .halted }

/-- R324: the pad byte was fetched and is ignored, whatever its value. -/
def opStop (_pad : Byte) (s : State) : State := s.mapCpu fun c => { c with mode := .stopped }

/-- R327. -/
def opDi (s : State) : State := s.mapCpu fun c => { c with ime := false, imePending := false }

/-- R328: with `EI_DELAY` = 1 only `imePending` is set, with 0 IME at once. -/
def opEi (s : State) : State :=
  if s.cfg.eiDelay then s.mapCpu fun c => { c with imePending := true } else s.mapCpu fun c => { c with ime := true }

/-- R329, R341: nothing changes; the outcome is reported (log entry 7). -/
def opUndefined (code : Byte) (s : State) : State :=
  { s with outside := { s.outside with outcome := some (.unknownOpcode code) } }

/-- `NOP` (R322). -/
def execNop (s : State) : Result := .next (opNop s)

/-- `STOP` (R324). -/
def execStop (pad : Byte) (s : State) : Result := .next (opStop pad s)

/-- `HALT` (R323). -/
def execHalt (s : State) : Result := .next (opHalt s)

/-- `UNDEFINED` (R329). -/
def execUndefined (code : Byte) (s : State) : Result := .next (opUndefined code s)

/-- `DI` (R327). -/
def execDi (s : State) : Result := .next (opDi s)

/-- `EI` (R328). -/
def execEi (s : State) : Result := .next (opEi s)

end Sys2Proof.Machine
end

