-- ==== Sys2Proof/Machine/Load16.lean ====
section
/-! DEFINITION. The 16-bit loads and the stack (41_load16.md): one operation per rule on the state after fetching, then
one meaning per instruction. -/

namespace Sys2Proof.Machine

/-- R191. -/
def opLdPairImm (dst : Pair) (nn : Word) (s : State) : State := s.mapCpu (Cpu.setPair dst nn)

/-- R192. -/
def opLdAbsSP (addr : Word) (s : State) : State :=
  (s.writeByte addr (lowByte s.cpu.sp)).writeByte (addr + 1#16) (highByte s.cpu.sp)

/-- R193. -/
def opLdSPHL (s : State) : State := (s.mapCpu fun c => { c with sp := c.hl }).idle

/-- R194. -/
def opLdHLSPe (e : Byte) (s : State) : State :=
  (s.mapCpu fun c => (c.setHL (c.sp + sext8 e)).setFlags false false (addSpH c.sp e) (addSpC c.sp e)).idle

/-- R195. -/
def opPush (src : StkPair) (s : State) : State := s.idle.push16 (s.cpu.stkPair src)

/-- R196; R197 for AF. -/
def opPop (dst : StkPair) (s : State) : State := s.pop16.mapCpu (Cpu.setStkPair dst s.popValue)

/-- `LD BC,d16` (R191). -/
def execLd_BC_d16 (nn : Word) (s : State) : Result := .next (opLdPairImm .bc nn s)

/-- `LD (a16),SP` (R192). -/
def execLd_atA16_SP (addr : Word) (s : State) : Result := .next (opLdAbsSP addr s)

/-- `LD DE,d16` (R191). -/
def execLd_DE_d16 (nn : Word) (s : State) : Result := .next (opLdPairImm .de nn s)

/-- `LD HL,d16` (R191). -/
def execLd_HL_d16 (nn : Word) (s : State) : Result := .next (opLdPairImm .hl nn s)

/-- `LD SP,d16` (R191). -/
def execLd_SP_d16 (nn : Word) (s : State) : Result := .next (opLdPairImm .sp nn s)

/-- `POP BC` (R196). -/
def execPop_BC (s : State) : Result := .next (opPop .bc s)

/-- `PUSH BC` (R195). -/
def execPush_BC (s : State) : Result := .next (opPush .bc s)

/-- `POP DE` (R196). -/
def execPop_DE (s : State) : Result := .next (opPop .de s)

/-- `PUSH DE` (R195). -/
def execPush_DE (s : State) : Result := .next (opPush .de s)

/-- `POP HL` (R196). -/
def execPop_HL (s : State) : Result := .next (opPop .hl s)

/-- `PUSH HL` (R195). -/
def execPush_HL (s : State) : Result := .next (opPush .hl s)

/-- `POP AF` (R197). -/
def execPop_AF (s : State) : Result := .next (opPop .af s)

/-- `PUSH AF` (R195). -/
def execPush_AF (s : State) : Result := .next (opPush .af s)

/-- `LD HL,SP+e8` (R194). -/
def execLd_HL_SPe8 (e : Byte) (s : State) : Result := .next (opLdHLSPe e s)

/-- `LD SP,HL` (R193). -/
def execLd_SP_HL (s : State) : Result := .next (opLdSPHL s)

end Sys2Proof.Machine
end

