-- ==== Sys2Proof/Machine/Load8.lean ====
section
/-! DEFINITION. The 8-bit loads (40_load8.md). First one operation per rule, on the state after the instruction's bytes
were fetched; then one meaning per instruction. No load changes a flag (R150). -/

namespace Sys2Proof.Machine

/-- R151. -/
def opLdRegReg (dst src : Reg8) (s : State) : State := s.mapCpu fun c => c.setReg dst (c.reg src)

/-- R152. -/
def opLdRegImm (dst : Reg8) (n : Byte) (s : State) : State := s.mapCpu (Cpu.setReg dst n)

/-- A register loaded from the byte at `addr`: `MemRead(addr, 1)`, then the write (R153, R156, R157, R160). -/
def loadFrom (dst : Reg8) (addr : Word) (s : State) : State := s.idle.mapCpu (Cpu.setReg dst (s.readByte addr))

/-- R153. -/
def opLdRegHL (dst : Reg8) (s : State) : State := loadFrom dst s.cpu.hl s

/-- R154. -/
def opLdHLReg (src : Reg8) (s : State) : State := s.writeByte s.cpu.hl (s.cpu.reg src)

/-- R155. -/
def opLdHLImm (n : Byte) (s : State) : State := s.writeByte s.cpu.hl n

/-- R156. -/
def opLdABC (s : State) : State := loadFrom .a s.cpu.bc s

/-- R157. -/
def opLdADE (s : State) : State := loadFrom .a s.cpu.de s

/-- R158. -/
def opLdBCA (s : State) : State := s.writeByte s.cpu.bc s.cpu.a

/-- R159. -/
def opLdDEA (s : State) : State := s.writeByte s.cpu.de s.cpu.a

/-- R160. -/
def opLdAAbs (addr : Word) (s : State) : State := loadFrom .a addr s

/-- R161. -/
def opLdAbsA (addr : Word) (s : State) : State := s.writeByte addr s.cpu.a

/-- R162. -/
def opLdhAImm (n : Byte) (s : State) : State := loadFrom .a (highPage n) s

/-- R163. -/
def opLdhImmA (n : Byte) (s : State) : State := s.writeByte (highPage n) s.cpu.a

/-- R164. -/
def opLdhAC (s : State) : State := loadFrom .a (highPage s.cpu.c) s

/-- R165. -/
def opLdhCA (s : State) : State := s.writeByte (highPage s.cpu.c) s.cpu.a

/-- R166. -/
def opLdIncA (s : State) : State := (s.writeByte s.cpu.hl s.cpu.a).mapCpu fun c => c.setHL (c.hl + 1#16)

/-- R167. -/
def opLdDecA (s : State) : State := (s.writeByte s.cpu.hl s.cpu.a).mapCpu fun c => c.setHL (c.hl - 1#16)

/-- R168. -/
def opLdAInc (s : State) : State := (loadFrom .a s.cpu.hl s).mapCpu fun c => c.setHL (c.hl + 1#16)

/-- R169. -/
def opLdADec (s : State) : State := (loadFrom .a s.cpu.hl s).mapCpu fun c => c.setHL (c.hl - 1#16)

/-- `LD (BC),A` (R158). -/
def execLd_atBC_A (s : State) : Result := .next (opLdBCA s)

/-- `LD B,d8` (R152). -/
def execLd_B_d8 (n : Byte) (s : State) : Result := .next (opLdRegImm .b n s)

/-- `LD A,(BC)` (R156). -/
def execLd_A_atBC (s : State) : Result := .next (opLdABC s)

/-- `LD C,d8` (R152). -/
def execLd_C_d8 (n : Byte) (s : State) : Result := .next (opLdRegImm .c n s)

/-- `LD (DE),A` (R159). -/
def execLd_atDE_A (s : State) : Result := .next (opLdDEA s)

/-- `LD D,d8` (R152). -/
def execLd_D_d8 (n : Byte) (s : State) : Result := .next (opLdRegImm .d n s)

/-- `LD A,(DE)` (R157). -/
def execLd_A_atDE (s : State) : Result := .next (opLdADE s)

/-- `LD E,d8` (R152). -/
def execLd_E_d8 (n : Byte) (s : State) : Result := .next (opLdRegImm .e n s)

/-- `LD (HL+),A` (R166). -/
def execLd_atHLI_A (s : State) : Result := .next (opLdIncA s)

/-- `LD H,d8` (R152). -/
def execLd_H_d8 (n : Byte) (s : State) : Result := .next (opLdRegImm .h n s)

/-- `LD A,(HL+)` (R168). -/
def execLd_A_atHLI (s : State) : Result := .next (opLdAInc s)

/-- `LD L,d8` (R152). -/
def execLd_L_d8 (n : Byte) (s : State) : Result := .next (opLdRegImm .l n s)

/-- `LD (HL-),A` (R167). -/
def execLd_atHLD_A (s : State) : Result := .next (opLdDecA s)

/-- `LD (HL),d8` (R155). -/
def execLd_atHL_d8 (n : Byte) (s : State) : Result := .next (opLdHLImm n s)

/-- `LD A,(HL-)` (R169). -/
def execLd_A_atHLD (s : State) : Result := .next (opLdADec s)

/-- `LD A,d8` (R152). -/
def execLd_A_d8 (n : Byte) (s : State) : Result := .next (opLdRegImm .a n s)

/-- `LD B,B` (R151). -/
def execLd_B_B (s : State) : Result := .next (opLdRegReg .b .b s)

/-- `LD B,C` (R151). -/
def execLd_B_C (s : State) : Result := .next (opLdRegReg .b .c s)

/-- `LD B,D` (R151). -/
def execLd_B_D (s : State) : Result := .next (opLdRegReg .b .d s)

/-- `LD B,E` (R151). -/
def execLd_B_E (s : State) : Result := .next (opLdRegReg .b .e s)

/-- `LD B,H` (R151). -/
def execLd_B_H (s : State) : Result := .next (opLdRegReg .b .h s)

/-- `LD B,L` (R151). -/
def execLd_B_L (s : State) : Result := .next (opLdRegReg .b .l s)

/-- `LD B,(HL)` (R153). -/
def execLd_B_atHL (s : State) : Result := .next (opLdRegHL .b s)

/-- `LD B,A` (R151). -/
def execLd_B_A (s : State) : Result := .next (opLdRegReg .b .a s)

/-- `LD C,B` (R151). -/
def execLd_C_B (s : State) : Result := .next (opLdRegReg .c .b s)

/-- `LD C,C` (R151). -/
def execLd_C_C (s : State) : Result := .next (opLdRegReg .c .c s)

/-- `LD C,D` (R151). -/
def execLd_C_D (s : State) : Result := .next (opLdRegReg .c .d s)

/-- `LD C,E` (R151). -/
def execLd_C_E (s : State) : Result := .next (opLdRegReg .c .e s)

/-- `LD C,H` (R151). -/
def execLd_C_H (s : State) : Result := .next (opLdRegReg .c .h s)

/-- `LD C,L` (R151). -/
def execLd_C_L (s : State) : Result := .next (opLdRegReg .c .l s)

/-- `LD C,(HL)` (R153). -/
def execLd_C_atHL (s : State) : Result := .next (opLdRegHL .c s)

/-- `LD C,A` (R151). -/
def execLd_C_A (s : State) : Result := .next (opLdRegReg .c .a s)

/-- `LD D,B` (R151). -/
def execLd_D_B (s : State) : Result := .next (opLdRegReg .d .b s)

/-- `LD D,C` (R151). -/
def execLd_D_C (s : State) : Result := .next (opLdRegReg .d .c s)

/-- `LD D,D` (R151). -/
def execLd_D_D (s : State) : Result := .next (opLdRegReg .d .d s)

/-- `LD D,E` (R151). -/
def execLd_D_E (s : State) : Result := .next (opLdRegReg .d .e s)

/-- `LD D,H` (R151). -/
def execLd_D_H (s : State) : Result := .next (opLdRegReg .d .h s)

/-- `LD D,L` (R151). -/
def execLd_D_L (s : State) : Result := .next (opLdRegReg .d .l s)

/-- `LD D,(HL)` (R153). -/
def execLd_D_atHL (s : State) : Result := .next (opLdRegHL .d s)

/-- `LD D,A` (R151). -/
def execLd_D_A (s : State) : Result := .next (opLdRegReg .d .a s)

/-- `LD E,B` (R151). -/
def execLd_E_B (s : State) : Result := .next (opLdRegReg .e .b s)

/-- `LD E,C` (R151). -/
def execLd_E_C (s : State) : Result := .next (opLdRegReg .e .c s)

/-- `LD E,D` (R151). -/
def execLd_E_D (s : State) : Result := .next (opLdRegReg .e .d s)

/-- `LD E,E` (R151). -/
def execLd_E_E (s : State) : Result := .next (opLdRegReg .e .e s)

/-- `LD E,H` (R151). -/
def execLd_E_H (s : State) : Result := .next (opLdRegReg .e .h s)

/-- `LD E,L` (R151). -/
def execLd_E_L (s : State) : Result := .next (opLdRegReg .e .l s)

/-- `LD E,(HL)` (R153). -/
def execLd_E_atHL (s : State) : Result := .next (opLdRegHL .e s)

/-- `LD E,A` (R151). -/
def execLd_E_A (s : State) : Result := .next (opLdRegReg .e .a s)

/-- `LD H,B` (R151). -/
def execLd_H_B (s : State) : Result := .next (opLdRegReg .h .b s)

/-- `LD H,C` (R151). -/
def execLd_H_C (s : State) : Result := .next (opLdRegReg .h .c s)

/-- `LD H,D` (R151). -/
def execLd_H_D (s : State) : Result := .next (opLdRegReg .h .d s)

/-- `LD H,E` (R151). -/
def execLd_H_E (s : State) : Result := .next (opLdRegReg .h .e s)

/-- `LD H,H` (R151). -/
def execLd_H_H (s : State) : Result := .next (opLdRegReg .h .h s)

/-- `LD H,L` (R151). -/
def execLd_H_L (s : State) : Result := .next (opLdRegReg .h .l s)

/-- `LD H,(HL)` (R153). -/
def execLd_H_atHL (s : State) : Result := .next (opLdRegHL .h s)

/-- `LD H,A` (R151). -/
def execLd_H_A (s : State) : Result := .next (opLdRegReg .h .a s)

/-- `LD L,B` (R151). -/
def execLd_L_B (s : State) : Result := .next (opLdRegReg .l .b s)

/-- `LD L,C` (R151). -/
def execLd_L_C (s : State) : Result := .next (opLdRegReg .l .c s)

/-- `LD L,D` (R151). -/
def execLd_L_D (s : State) : Result := .next (opLdRegReg .l .d s)

/-- `LD L,E` (R151). -/
def execLd_L_E (s : State) : Result := .next (opLdRegReg .l .e s)

/-- `LD L,H` (R151). -/
def execLd_L_H (s : State) : Result := .next (opLdRegReg .l .h s)

/-- `LD L,L` (R151). -/
def execLd_L_L (s : State) : Result := .next (opLdRegReg .l .l s)

/-- `LD L,(HL)` (R153). -/
def execLd_L_atHL (s : State) : Result := .next (opLdRegHL .l s)

/-- `LD L,A` (R151). -/
def execLd_L_A (s : State) : Result := .next (opLdRegReg .l .a s)

/-- `LD (HL),B` (R154). -/
def execLd_atHL_B (s : State) : Result := .next (opLdHLReg .b s)

/-- `LD (HL),C` (R154). -/
def execLd_atHL_C (s : State) : Result := .next (opLdHLReg .c s)

/-- `LD (HL),D` (R154). -/
def execLd_atHL_D (s : State) : Result := .next (opLdHLReg .d s)

/-- `LD (HL),E` (R154). -/
def execLd_atHL_E (s : State) : Result := .next (opLdHLReg .e s)

/-- `LD (HL),H` (R154). -/
def execLd_atHL_H (s : State) : Result := .next (opLdHLReg .h s)

/-- `LD (HL),L` (R154). -/
def execLd_atHL_L (s : State) : Result := .next (opLdHLReg .l s)

/-- `LD (HL),A` (R154). -/
def execLd_atHL_A (s : State) : Result := .next (opLdHLReg .a s)

/-- `LD A,B` (R151). -/
def execLd_A_B (s : State) : Result := .next (opLdRegReg .a .b s)

/-- `LD A,C` (R151). -/
def execLd_A_C (s : State) : Result := .next (opLdRegReg .a .c s)

/-- `LD A,D` (R151). -/
def execLd_A_D (s : State) : Result := .next (opLdRegReg .a .d s)

/-- `LD A,E` (R151). -/
def execLd_A_E (s : State) : Result := .next (opLdRegReg .a .e s)

/-- `LD A,H` (R151). -/
def execLd_A_H (s : State) : Result := .next (opLdRegReg .a .h s)

/-- `LD A,L` (R151). -/
def execLd_A_L (s : State) : Result := .next (opLdRegReg .a .l s)

/-- `LD A,(HL)` (R153). -/
def execLd_A_atHL (s : State) : Result := .next (opLdRegHL .a s)

/-- `LD A,A` (R151). -/
def execLd_A_A (s : State) : Result := .next (opLdRegReg .a .a s)

/-- `LDH (a8),A` (R163). -/
def execLdh_atA8_A (n : Byte) (s : State) : Result := .next (opLdhImmA n s)

/-- `LD (C),A` (R165). -/
def execLd_atC_A (s : State) : Result := .next (opLdhCA s)

/-- `LD (a16),A` (R161). -/
def execLd_atA16_A (addr : Word) (s : State) : Result := .next (opLdAbsA addr s)

/-- `LDH A,(a8)` (R162). -/
def execLdh_A_atA8 (n : Byte) (s : State) : Result := .next (opLdhAImm n s)

/-- `LD A,(C)` (R164). -/
def execLd_A_atC (s : State) : Result := .next (opLdhAC s)

/-- `LD A,(a16)` (R160). -/
def execLd_A_atA16 (addr : Word) (s : State) : Result := .next (opLdAAbs addr s)

end Sys2Proof.Machine
end

