-- ==== Sys2Proof/Machine/OtherOperation.lean ====
section
/-! DEFINITION. An operation of a dispatch table that no rule of files 40 to 46 describes (R8, D1, log entry 15): a free
sequence of the timed primitives of R18, of at most the 24 cycles of any step (R476). -/

namespace Sys2Proof

open Machine

/-- One move of such an operation: a timed primitive of R18, or its end with the registers it leaves. DEDUCED (log entry
15): `raise UnknownOpcode` and `RequestInterrupt` are no moves of it, since only undefined opcodes and empty entries raise
UnknownOpcode (R341), and interrupts are requested by ticks and the refresh and never by anything else (R346); that these
two rules bind another table's operations, which R8 leaves open, is the model's reading. -/
inductive MicroOp where
  | idle
  | fetch
  | read (addr : Word)
  | write (addr : Word) (v : Byte)
  | finish (c : Cpu)
deriving DecidableEq, Repr, Inhabited

/-- FREE VALUE (log entry 15): the next move of the operation under `op` (of the CB page if `cb`), from the registers
after its opcode was fetched and what its machine cycles so far gave, the last one first: a byte if it was a read. -/
opaque Config.otherOperation : (cb : Bool) → (op : Byte) → Cpu → List (Option Byte) → MicroOp

namespace Machine

/-- The registers such an operation leaves: F's low nibble stays zero (R25), and `imePending` is set only with
`EI_DELAY` = 1 (R27). -/
def State.finishOther (c : Cpu) (s : State) : State :=
  { s with cpu := { c with f := maskFlags c.f, imePending := s.cfg.eiDelay && c.imePending } }

/-- The operation carried on for at most `n` further machine cycles. One that has not ended by then is cut off, its
registers as they are (log entry 15). -/
def State.runOther (cb : Bool) (op : Byte) (start : Cpu) : Nat → List (Option Byte) → State → State
  | 0, past, s =>
    match Config.otherOperation cb op start past with
    | .finish c => s.finishOther c
    | .idle => s
    | .fetch => s
    | .read _ => s
    | .write _ _ => s
  | n + 1, past, s =>
    match Config.otherOperation cb op start past with
    | .finish c => s.finishOther c
    | .idle => State.runOther cb op start n (none :: past) s.idle
    | .fetch => State.runOther cb op start n (some (s.readByte s.cpu.pc) :: past) s.fetched
    | .read addr => State.runOther cb op start n (some (s.readByte addr) :: past) s.idle
    | .write addr v => State.runOther cb op start n (none :: past) (s.writeByte addr v)

/-- The state after the operation at PC, if the dispatch table holds one that no rule describes. -/
def State.otherOperation (s : State) : Option State :=
  let op := s.readByte s.cpu.pc
  let s1 := s.fetched
  if op = 0xCB#8 then
    let op2 := s1.readByte s1.cpu.pc
    let s2 := s1.fetched
    if s.cfg.dispatch.cbEntry op2 = .other then some (State.runOther true op2 s2.cpu 4 [] s2) else none
  else if s.cfg.dispatch.baseEntry op = .other then some (State.runOther false op s1.cpu 5 [] s1)
  else none

end Machine

end Sys2Proof
end

