-- ==== Sys2Proof/Machine/Processor.lean ====
section
/-! DEFINITION. The Processor's `Step()` (R321), the frame scheduler's iteration (R471) with the host's side of it
(R474, R475), power-on (R491 to R493), and the placing of an instruction for `State.withFetchWord`. Step.lean only calls
these. -/

namespace Sys2Proof.Machine

/-! ## Fetching -/

/-- The bytes of the instruction at PC, fetched one `Fetch8()` each as far as the first one calls for, and the state
after them, by the dispatch table (R8, R125, R321). -/
def State.fetchForm (s : State) : Form × State :=
  let op := s.readByte s.cpu.pc
  let s1 := s.fetched
  match s.cfg.dispatch.first op with
  | .one f => (f, s1)
  | .two f => (f (s1.readByte s1.cpu.pc), s1.fetched)
  | .three f =>
    let s2 := s1.fetched
    (f (hiLo (s2.readByte s2.cpu.pc) (s1.readByte s1.cpu.pc)), s2.fetched)

/-- The next `n` bytes at PC by `Fetch8()`, and the state after them (R18). -/
def State.fetchBytes : Nat → State → List Byte × State
  | 0, s => ([], s)
  | n + 1, s =>
    let r := State.fetchBytes n s.fetched
    (s.readByte s.cpu.pc :: r.1, r.2)

/-! ## The step of the Processor -/

/-- Some button is pressed (R326). -/
def InputLatch.anyPressed (l : InputLatch) : Bool :=
  l.up || l.down || l.left || l.right || l.a || l.b || l.start || l.select

/-- A Halted or Stopped processor stays so (R325, R326). -/
def State.asleep (s : State) : Bool :=
  match s.cpu.mode with
  | .running => false
  | .halted => decide (pendingBits s.units.timer = 0#5)
  | .stopped => !s.outside.latch.anyPressed

/-- The outcome of `Step()` recorded (log entry 9). -/
def State.report (o : Option StepOutcome) (s : State) : State := { s with outside := { s.outside with outcome := o } }

/-- The end of a `Step()` that executed an instruction (R321): an undefined opcode's outcome stands and nothing else
changes; otherwise a pending EI matures (`p`: `imePending` was set when the step began) and the outcome is Continued or
Halted by the mode. -/
def State.finishStep (p : Bool) (s : State) : State :=
  match s.outside.outcome with
  | some (.unknownOpcode _) => s
  | _ =>
    let s := if p && s.cpu.imePending then s.mapCpu fun c => { c with ime := true, imePending := false } else s
    s.report (some (if s.cpu.mode = .running then .continued else .halted))

/-- `p <- imePending`, a line that exists only with `EI_DELAY` = 1 (R321). -/
def State.eiMatures (s : State) : Bool := s.cfg.eiDelay && s.cpu.imePending

/-- An awake processor, ready to fetch: Running, no outcome yet (R321). -/
def State.awake (s : State) : State := (s.mapCpu fun c => { c with mode := .running }).report none

/-- `Step()` (R321). The first case arises only with a dispatch table other than the spec's default (R8). -/
def State.cpuStep (s : State) : Result :=
  if s.asleep then .next (s.idle.report (some .halted))
  else
    match s.awake.otherOperation with
    | some t => .next (t.finishStep s.eiMatures)
    | none =>
      let r := s.awake.fetchForm
      match exec r.1.instr r.2 with
      | .next t => .next (t.finishStep s.eiMatures)
      | .fault e => .fault e
      | .refused e => .refused e

/-! ## The scheduler and the host -/

/-- The start of a `RunFrame` call, when none is in progress: the host refreshes the InputLatch first (R475). With no
latch queued the host presents the latch it last presented, which changes nothing (log entry 5). -/
def State.beginFrame (s : State) : State :=
  if s.outside.inFrame then s
  else
    let s := { s with outside := { s.outside with inFrame := true } }
    match s.outside.latchQueue with
    | [] => s
    | l :: rest => ({ s with outside := { s.outside with latchQueue := rest } }).refreshLatch l

/-- `RunFrame` returns `o` (R471). -/
def State.endFrame (o : FrameOutcome) (s : State) : State :=
  { s with outside := { s.outside with inFrame := false, frameOutcome := some o } }

/-- The frame-end check at the bottom of the loop (R471, R472). -/
def State.frameEnd (s : State) : State :=
  if s.units.frameDone then ({ s with units := { s.units with frameDone := false } }).endFrame .completed
  else { s with outside := { s.outside with frameOutcome := none } }

/-- The hook's answer to `code`: the next queued one, else the free value (log entry 6). -/
def State.hookAnswer (code : Byte) (s : State) : HookAnswer :=
  match s.outside.hookQueue with
  | a :: _ => a
  | [] => Config.onUnknownOpcode s.outside.hookCalls code

/-- The hook consulted once (log entry 6). -/
def State.hookConsulted (s : State) : State :=
  match s.outside.hookQueue with
  | _ :: rest => { s with outside := { s.outside with hookQueue := rest } }
  | [] => { s with outside := { s.outside with hookCalls := s.outside.hookCalls + 1 } }

/-- The rest of an iteration after `Step()` (R471): on an undefined opcode the hook is consulted, and on Abort `RunFrame`
returns AbortedByHost with `frameDone` left as it is (R474). -/
def State.afterStep (s : State) : State :=
  match s.outside.outcome with
  | some (.unknownOpcode code) =>
    match s.hookAnswer code with
    | .abort => s.hookConsulted.endFrame .abortedByHost
    | .resume => s.hookConsulted.frameEnd
  | _ => s.frameEnd

/-- The interrupt the scheduler services instead of a step, if any (R350, R471). -/
def State.interruptTaken (s : State) : Option Nat :=
  if s.cpu.ime then nextPendingInterrupt s.units.timer else none

/-- One iteration of the `RunFrame` loop (R471). -/
def State.iteration (s : State) : Result :=
  match s.interruptTaken with
  | some k => .next ((s.serviceInterrupt k).report none).frameEnd
  | none =>
    match s.cpuStep with
    | .next t => .next t.afterStep
    | .fault e => .fault e
    | .refused e => .refused e

/-! ## Power-on -/

/-- The launch inputs (R9, R491, R493): the two files as supplied, the parameters of R8, and the contents R493 leaves
open. `f` gives the upper four bits of F. -/
structure Launch where
  bootFile : Option (List Byte)
  cartFile : Option (List Byte)
  cartridge : CartridgeKind
  dispatch : DispatchTable
  eiDelay : Bool
  ioImplemented : List IoReg
  mem : Memory
  a : Byte
  f : Byte
  b : Byte
  c : Byte
  d : Byte
  e : Byte
  h : Byte
  l : Byte
  sp : Word
deriving DecidableEq, Repr

/-- A boot image is present: a file of exactly 256 bytes (R9, R491). -/
def Launch.boot (x : Launch) : Option Memory :=
  match x.bootFile with
  | some bs => if bs.length = 256 then some (Memory.ofBytes bs) else none
  | none => none

/-- A cartridge is present: a file of at least 32768 bytes (R9, R491). -/
def Launch.rom (x : Launch) : Option Memory :=
  match x.cartFile with
  | some bs => if 32768 ≤ bs.length then some (Memory.ofBytes bs) else none
  | none => none

/-- The machine right after power-on (R491, R492, R493): the fallback registers without a boot image, the launch's
registers with one. -/
def State.powerOn (x : Launch) : State :=
  let cpu := match x.boot with
    | none => Cpu.reset
    | some _ => { Cpu.reset with
        a := x.a, f := maskFlags x.f, b := x.b, c := x.c, d := x.d, e := x.e, h := x.h, l := x.l, sp := x.sp
        pc := 0x0000#16 }
  let bank := match x.boot with
    | none => 0x01#8
    | some _ => 0x00#8
  { State.reset with
    cpu := cpu
    units := { Units.reset with bus := { Bus.reset with mem := x.mem, bank := bank } }
    cfg := {
      boot := x.boot, rom := x.rom, cartridge := x.cartridge, dispatch := x.dispatch
      eiDelay := x.eiDelay, ioImplemented := x.ioImplemented } }

/-! ## Placing an instruction where the next step fetches it -/

/-- The byte `v` stored where a fetch at `addr` reads it: in the boot image while the overlay is active, in the cartridge
image (a cartridge being present from then on), or in an internal memory. -/
def State.placeByte (addr : Word) (v : Byte) (s : State) : State :=
  let a := addr.toNat
  match region a s.units.bus.bank with
  | .bootOverlay => { s with cfg := { s.cfg with boot := some (Memory.write (s.cfg.boot.getD []) a v) } }
  | .rom0 => { s with cfg := { s.cfg with rom := some (Memory.write (s.cfg.rom.getD []) a v) } }
  | .rom1 => { s with cfg := { s.cfg with rom := some (Memory.write (s.cfg.rom.getD []) a v) } }
  | .wram => s.mapUnits (storeRam a v)
  | .echo => s.mapUnits (storeRam (a - 0x2000) v)
  | .hram => s.mapUnits (storeRam a v)
  | _ => s

/-- A fetch at `addr` reads what `placeByte` stored there, whatever the units do; what a cartridge other than the minimal
one reads as is not the image's to say. -/
def placeable (cfg : Config) (bank : Byte) (addr : Word) : Bool :=
  match region addr.toNat bank with
  | .bootOverlay => true
  | .rom0 => decide (cfg.cartridge = .minimal)
  | .rom1 => decide (cfg.cartridge = .minimal)
  | .wram => true
  | .echo => true
  | .hram => true
  | _ => false

/-- Bytes placed from `addr` on. -/
def State.placeBytes : Word → List Byte → State → State
  | _, [], s => s
  | addr, v :: rest, s => State.placeBytes (addr + 1#16) rest (s.placeByte addr v)

/-- The instruction bytes `bs` placed at PC so that the very next step fetches and runs them (log entry 12): PC stays
where it is if all the bytes can be placed there, else it moves to 0xC000; IME stays unless the next iteration would
take an interrupt instead, and then it is cleared; a halted or stopped processor is set Running; the dispatch table is
the opcode table's. -/
def State.placeInstruction (bs : List Byte) (s : State) : State :=
  let pc := s.cpu.pc
  let bank := s.units.bus.bank
  let fits := placeable s.cfg bank pc && placeable s.cfg bank (pc + 1#16) && placeable s.cfg bank (pc + 2#16)
  let start := if fits then pc else 0xC000#16
  let ime := s.cpu.ime && s.beginFrame.interruptTaken.isNone
  let s := { s with cfg := { s.cfg with dispatch := DispatchTable.default } }
  State.placeBytes start bs (s.mapCpu fun c => { c with pc := start, ime := ime, mode := .running })

end Sys2Proof.Machine
end

