-- ==== Sys2Proof/Machine/Step.lean ====
section
/-! DEFINITION. One step of the machine, and an instruction placed where that step fetches it. -/

namespace Sys2Proof.Machine

/-- One top-level transition (R14): one iteration of the `RunFrame` loop, begun by the host's refresh when no `RunFrame`
is in progress (R471, R475; log entry 8). -/
def step (s : State) : Host.Outcome State Fault Refusal := s.beginFrame.iteration

/-- `s` with an instruction of the opcode table's numbering placed where the next step fetches it (log entry 12). -/
def State.withFetchWord (s : State) (nbits w : Nat) : State := s.placeInstruction (bytesOfTableWord nbits w)

end Sys2Proof.Machine
end

