-- ==== Sys2Proof/Safety.lean ====
section
/-! DEFINITION. What claims are stated with: the invariant of the machine (R56 and what the unit rules add to it), what
only the processor's writes change, and the footprint of an instruction by its form: the flags it affects (R211), the
registers it writes, the addresses it stores to, and its cost (R510). -/

namespace Sys2Proof

open Machine in
/-- The invariant of the configuration (R9). -/
structure Config.Inv (c : Config) : Prop where
  boot_wf : ∀ m, c.boot = some m → Memory.wf m = true
  boot_size : ∀ m, c.boot = some m → ∀ cell ∈ m, cell.1 < 256
  rom_wf : ∀ m, c.rom = some m → Memory.wf m = true

namespace Machine

/-! ## The invariant -/

/-- The number of ticks until the cycle counter `c` meets the target `t` (R381). -/
def ticksUntil (c t : Nat) : Nat := (t + frameCycles - c) % frameCycles

/-- The invariant of the units, kept by every tick and by every bus write. -/
structure Units.Inv (u : Units) : Prop where
  /-- R29. -/
  cycles_lt : u.cycles < frameCycles
  /-- R39. -/
  ly_eq : u.timer.ly.toNat = u.cycles / lineCycles
  /-- R35. -/
  nextDIV_lt : u.timer.nextDIVCycle < frameCycles
  /-- R36. -/
  nextTIMA_lt : u.timer.nextTIMACycle < frameCycles
  /-- The DIV target is 1 to 256 ticks ahead (R383). -/
  div_ahead : 1 ≤ ticksUntil u.cycles u.timer.nextDIVCycle ∧ ticksUntil u.cycles u.timer.nextDIVCycle ≤ 256
  /-- The TIMA target of an enabled timer is 1 to one period ahead (R385, R387). -/
  tima_ahead : tacEnabled u.timer.tac = true →
    1 ≤ ticksUntil u.cycles u.timer.nextTIMACycle ∧
      ticksUntil u.cycles u.timer.nextTIMACycle ≤ timaPeriod u.timer.tac
  /-- R44. -/
  vram_blocked : u.bus.vramBlocked = decide (u.ppu.mode = .draw)
  /-- R44. -/
  oam_blocked : u.bus.oamBlocked = decide (u.ppu.mode = .oamScan ∨ u.ppu.mode = .draw)
  /-- R56, R412. -/
  vblank_iff : u.ppu.mode = .vblank ↔ 144 ≤ u.timer.ly.toNat
  /-- R412. -/
  scan_iff : u.timer.ly.toNat < 144 → (u.ppu.mode = .oamScan ↔ u.cycles % lineCycles < 80)
  /-- R435. -/
  ready_iff : u.ppu.frameReady = decide (u.ppu.mode = .vblank)
  /-- R51. -/
  bg_le : u.ppu.bgFifo.length ≤ 16
  /-- R430. -/
  sprite_le : u.ppu.spriteFifo.length ≤ 8
  /-- R52. -/
  scan_le : u.ppu.scan.length ≤ 10
  /-- R52. -/
  scan_index : ∀ e ∈ u.ppu.scan, e.index < 40
  /-- R53. -/
  lcdX_le : u.ppu.lcdX ≤ 160
  /-- R53. -/
  discard_le : u.ppu.discard ≤ 7
  /-- R53. -/
  stall_le : u.ppu.stall ≤ 5
  /-- A sprite is pending exactly during a stall (R421, R428). -/
  pending_iff : u.ppu.pendingSprite.isSome = decide (0 < u.ppu.stall)
  /-- R53. -/
  pending_index : ∀ i, u.ppu.pendingSprite = some i → i < 40
  /-- The LCD buffer is in canonical form. -/
  lcd_wf : Sparse.wf 0#2 u.ppu.lcd = true
  /-- Its cells are those of the 144 x 160 grid (R47). -/
  lcd_cell : ∀ cell ∈ u.ppu.lcd, cell.1 < 144 * 160
  /-- The internal memories are in canonical form. -/
  mem_wf : Memory.wf u.bus.mem = true
  /-- They hold nothing outside VRAM, WRAM, OAM and HRAM (R41). -/
  mem_ram : Memory.inRam u.bus.mem = true

/-- The invariant of the machine at the end of every top-level transition (R56). -/
structure State.Inv (s : State) : Prop where
  units : s.units.Inv
  cfg : s.cfg.Inv
  /-- F[3:0] = 0 (R25). -/
  flags_low : s.cpu.f &&& 0x0F#8 = 0#8
  /-- R473. -/
  cycles_aligned : s.units.cycles % 4 = 0
  /-- `frameDone` outlives a transition only when that transition ended in an abort (R472, R474). -/
  done_aborted : s.units.frameDone = true → s.outside.frameOutcome = some .abortedByHost
  /-- The overlay is decoded only when a boot image is present (R42, R78). -/
  overlay : s.units.bus.bank = 0#8 → s.cfg.boot.isSome = true
  /-- With `EI_DELAY` = 0 `imePending` is never set (R27). -/
  pending : s.cfg.eiDelay = false → s.cpu.imePending = false

/-! ## What only the processor's writes change -/

/-- The contents that no unit changes by itself: the four memories (R41), BANK, the joypad select bits, the cartridge's state, TMA, TAC, IE,
LYC and the PPU registers. -/
structure Held where
  mem : Memory
  bank : Byte
  joypSelect : BitVec 2
  cart : List CartWrite
  tma : Byte
  tac : BitVec 3
  intEnable : Byte
  lyc : Byte
  lcdc : Byte
  statEnable : BitVec 4
  scy : Byte
  scx : Byte
  bgp : Byte
  obp0 : Byte
  obp1 : Byte
deriving DecidableEq, Repr

/-- These contents of the units. -/
def Units.held (u : Units) : Held where
  mem := u.bus.mem
  bank := u.bus.bank
  joypSelect := u.bus.joypSelect
  cart := u.bus.cart
  tma := u.timer.tma
  tac := u.timer.tac
  intEnable := u.timer.intEnable
  lyc := u.timer.lyc
  lcdc := u.ppu.lcdc
  statEnable := u.ppu.statEnable
  scy := u.ppu.scy
  scx := u.ppu.scx
  bgp := u.ppu.bgp
  obp0 := u.ppu.obp0
  obp1 := u.ppu.obp1

/-- The byte of internal memory that bus address `addr` reaches, whatever is blocked; none where it reaches none. -/
def State.ramByte (s : State) (addr : Word) : Option Byte :=
  (ramKey addr.toNat).map (Memory.read s.units.bus.mem)

end Machine

open Machine

/-! ## The footprint of an instruction -/

/-- An entry of the flag table (R211). -/
inductive FlagEffect where
  /-- `-`: not changed. -/
  | kept
  /-- `0`. -/
  | zero
  /-- `1`. -/
  | one
  /-- `*`: as the instruction's rule says. -/
  | computed
deriving DecidableEq, Repr

/-- A row of the flag table (R211). -/
structure FlagRow where
  z : FlagEffect
  n : FlagEffect
  h : FlagEffect
  c : FlagEffect
deriving DecidableEq, Repr

/-- A flag after an instruction obeys its entry. -/
def FlagEffect.allows (before after : Bool) : FlagEffect → Prop
  | .kept => after = before
  | .zero => after = false
  | .one => after = true
  | .computed => True

/-- The row of a two-operand ALU operation (R211). -/
def AluOp.flagRow : AluOp → FlagRow
  | .add => ⟨.computed, .zero, .computed, .computed⟩
  | .adc => ⟨.computed, .zero, .computed, .computed⟩
  | .sub => ⟨.computed, .one, .computed, .computed⟩
  | .sbc => ⟨.computed, .one, .computed, .computed⟩
  | .cp => ⟨.computed, .one, .computed, .computed⟩
  | .and => ⟨.computed, .zero, .one, .zero⟩
  | .xor => ⟨.computed, .zero, .zero, .zero⟩
  | .or => ⟨.computed, .zero, .zero, .zero⟩

/-- The row of a CB-page rotate or shift (R211). -/
def ShiftOp.flagRow : ShiftOp → FlagRow
  | .swap => ⟨.computed, .zero, .zero, .zero⟩
  | .rlc => ⟨.computed, .zero, .zero, .computed⟩
  | .rrc => ⟨.computed, .zero, .zero, .computed⟩
  | .rl => ⟨.computed, .zero, .zero, .computed⟩
  | .rr => ⟨.computed, .zero, .zero, .computed⟩
  | .sla => ⟨.computed, .zero, .zero, .computed⟩
  | .sra => ⟨.computed, .zero, .zero, .computed⟩
  | .srl => ⟨.computed, .zero, .zero, .computed⟩

/-- The row of every instruction in the flag table (R211). -/
def Form.flagRow : Form → FlagRow
  | .aluReg op _ => op.flagRow
  | .aluHL op => op.flagRow
  | .aluImm op _ => op.flagRow
  | .incReg _ => ⟨.computed, .zero, .computed, .kept⟩
  | .incHL => ⟨.computed, .zero, .computed, .kept⟩
  | .decReg _ => ⟨.computed, .one, .computed, .kept⟩
  | .decHL => ⟨.computed, .one, .computed, .kept⟩
  | .daa => ⟨.computed, .kept, .zero, .computed⟩
  | .cpl => ⟨.kept, .one, .one, .kept⟩
  | .scf => ⟨.kept, .zero, .zero, .one⟩
  | .ccf => ⟨.kept, .zero, .zero, .computed⟩
  | .addHL _ => ⟨.kept, .zero, .computed, .computed⟩
  | .addSPe _ => ⟨.zero, .zero, .computed, .computed⟩
  | .ldHLSPe _ => ⟨.zero, .zero, .computed, .computed⟩
  | .rlca => ⟨.zero, .zero, .zero, .computed⟩
  | .rla => ⟨.zero, .zero, .zero, .computed⟩
  | .rrca => ⟨.zero, .zero, .zero, .computed⟩
  | .rra => ⟨.zero, .zero, .zero, .computed⟩
  | .shiftReg op _ => op.flagRow
  | .shiftHL op => op.flagRow
  | .bitReg _ _ => ⟨.computed, .zero, .one, .kept⟩
  | .bitHL _ => ⟨.computed, .zero, .one, .kept⟩
  | .pop dst =>
    match dst with
    | .af => ⟨.computed, .computed, .computed, .computed⟩
    | .bc | .de | .hl => ⟨.kept, .kept, .kept, .kept⟩
  | .ldRegReg _ _ | .ldRegImm _ _ | .ldRegHL _ | .ldHLReg _ | .ldHLImm _ | .ldABC | .ldADE | .ldBCA | .ldDEA
  | .ldAAbs _ | .ldAbsA _ | .ldhAImm _ | .ldhImmA _ | .ldhAC | .ldhCA | .ldIncA | .ldDecA | .ldAInc | .ldADec
  | .ldPairImm _ _ | .ldAbsSP _ | .ldSPHL | .push _ | .incPair _ | .decPair _ | .resReg _ _ | .resHL _
  | .setReg _ _ | .setHL _ | .jp _ | .jpCond _ _ | .jpHL | .jr _ | .jrCond _ _ | .call _ | .callCond _ _ | .ret
  | .retCond _ | .reti | .rst _ | .nop | .halt | .stop _ | .di | .ei | .undefined _ => ⟨.kept, .kept, .kept, .kept⟩

/-- The 8-bit registers that make up a pair. -/
def Pair.halves : Pair → List Reg8
  | .bc => [.b, .c]
  | .de => [.d, .e]
  | .hl => [.h, .l]
  | .sp => []

/-- The 8-bit registers other than F that make up a stack pair. -/
def StkPair.halves : StkPair → List Reg8
  | .bc => [.b, .c]
  | .de => [.d, .e]
  | .hl => [.h, .l]
  | .af => [.a]

/-- The 8-bit registers other than F an instruction may write, by its rule. -/
def Form.writesRegs : Form → List Reg8
  | .ldRegReg dst _ => [dst]
  | .ldRegImm dst _ => [dst]
  | .ldRegHL dst => [dst]
  | .ldABC => [.a]
  | .ldADE => [.a]
  | .ldAAbs _ => [.a]
  | .ldhAImm _ => [.a]
  | .ldhAC => [.a]
  | .ldIncA => [.h, .l]
  | .ldDecA => [.h, .l]
  | .ldAInc => [.a, .h, .l]
  | .ldADec => [.a, .h, .l]
  | .ldPairImm dst _ => dst.halves
  | .ldHLSPe _ => [.h, .l]
  | .pop dst => dst.halves
  | .aluReg op _ => if op = .cp then [] else [.a]
  | .aluHL op => if op = .cp then [] else [.a]
  | .aluImm op _ => if op = .cp then [] else [.a]
  | .incReg r => [r]
  | .decReg r => [r]
  | .daa => [.a]
  | .cpl => [.a]
  | .addHL _ => [.h, .l]
  | .incPair r => r.halves
  | .decPair r => r.halves
  | .rlca => [.a]
  | .rla => [.a]
  | .rrca => [.a]
  | .rra => [.a]
  | .shiftReg _ r => [r]
  | .resReg _ r => [r]
  | .setReg _ r => [r]
  | .ldHLReg _ | .ldHLImm _ | .ldBCA | .ldDEA | .ldAbsA _ | .ldhImmA _ | .ldhCA | .ldAbsSP _ | .ldSPHL
  | .push _ | .incHL | .decHL | .scf | .ccf | .addSPe _ | .shiftHL _ | .bitReg _ _ | .bitHL _ | .resHL _
  | .setHL _ | .jp _ | .jpCond _ _ | .jpHL | .jr _ | .jrCond _ _ | .call _ | .callCond _ _ | .ret | .retCond _
  | .reti | .rst _ | .nop | .halt | .stop _ | .di | .ei | .undefined _ => []

/-- SP after an instruction, by its rule: what it adds to SP, or what it loads. -/
def Form.spAfter (f : Form) (c : Cpu) : Word :=
  match f with
  | .ldPairImm dst nn => if dst = .sp then nn else c.sp
  | .ldSPHL => c.hl
  | .push _ => c.sp - 2#16
  | .pop _ => c.sp + 2#16
  | .incPair r => if r = .sp then c.sp + 1#16 else c.sp
  | .decPair r => if r = .sp then c.sp - 1#16 else c.sp
  | .addSPe e => c.sp + sext8 e
  | .call _ => c.sp - 2#16
  | .callCond cc _ => if c.holds cc then c.sp - 2#16 else c.sp
  | .ret => c.sp + 2#16
  | .retCond cc => if c.holds cc then c.sp + 2#16 else c.sp
  | .reti => c.sp + 2#16
  | .rst _ => c.sp - 2#16
  | .ldRegReg _ _ | .ldRegImm _ _ | .ldRegHL _ | .ldHLReg _ | .ldHLImm _ | .ldABC | .ldADE | .ldBCA | .ldDEA
  | .ldAAbs _ | .ldAbsA _ | .ldhAImm _ | .ldhImmA _ | .ldhAC | .ldhCA | .ldIncA | .ldDecA | .ldAInc | .ldADec
  | .ldAbsSP _ | .ldHLSPe _ | .aluReg _ _ | .aluHL _ | .aluImm _ _ | .incReg _ | .incHL | .decReg _ | .decHL
  | .daa | .cpl | .scf | .ccf | .addHL _ | .rlca | .rla | .rrca | .rra | .shiftReg _ _ | .shiftHL _
  | .bitReg _ _ | .bitHL _ | .resReg _ _ | .resHL _ | .setReg _ _ | .setHL _ | .jp _ | .jpCond _ _ | .jpHL
  | .jr _ | .jrCond _ _ | .nop | .halt | .stop _ | .di | .ei | .undefined _ => c.sp

/-- The bus addresses an instruction stores to, from the registers before it (R18, R154 to R167, R192, R195, R238, R240,
R266 to R286, R296, R297, R305). -/
def Form.stores (f : Form) (c : Cpu) : List Word :=
  match f with
  | .ldHLReg _ => [c.hl]
  | .ldHLImm _ => [c.hl]
  | .ldBCA => [c.bc]
  | .ldDEA => [c.de]
  | .ldAbsA addr => [addr]
  | .ldhImmA n => [highPage n]
  | .ldhCA => [highPage c.c]
  | .ldIncA => [c.hl]
  | .ldDecA => [c.hl]
  | .ldAbsSP addr => [addr, addr + 1#16]
  | .push _ => [c.sp - 1#16, c.sp - 2#16]
  | .incHL => [c.hl]
  | .decHL => [c.hl]
  | .shiftHL _ => [c.hl]
  | .resHL _ => [c.hl]
  | .setHL _ => [c.hl]
  | .call _ => [c.sp - 1#16, c.sp - 2#16]
  | .callCond cc _ => if c.holds cc then [c.sp - 1#16, c.sp - 2#16] else []
  | .rst _ => [c.sp - 1#16, c.sp - 2#16]
  | .ldRegReg _ _ | .ldRegImm _ _ | .ldRegHL _ | .ldABC | .ldADE | .ldAAbs _ | .ldhAImm _ | .ldhAC | .ldAInc
  | .ldADec | .ldPairImm _ _ | .ldSPHL | .ldHLSPe _ | .pop _ | .aluReg _ _ | .aluHL _ | .aluImm _ _ | .incReg _
  | .decReg _ | .daa | .cpl | .scf | .ccf | .addHL _ | .incPair _ | .decPair _ | .addSPe _ | .rlca | .rla
  | .rrca | .rra | .shiftReg _ _ | .bitReg _ _ | .bitHL _ | .resReg _ _ | .setReg _ _ | .jp _ | .jpCond _ _
  | .jpHL | .jr _ | .jrCond _ _ | .ret | .retCond _ | .reti | .nop | .halt | .stop _ | .di | .ei | .undefined _
    => []

/-- The length of an instruction in bytes, by its format (R120). -/
def Form.length : Form → Nat
  | .ldRegImm _ _ => 2
  | .ldHLImm _ => 2
  | .ldAAbs _ => 3
  | .ldAbsA _ => 3
  | .ldhAImm _ => 2
  | .ldhImmA _ => 2
  | .ldPairImm _ _ => 3
  | .ldAbsSP _ => 3
  | .ldHLSPe _ => 2
  | .aluImm _ _ => 2
  | .addSPe _ => 2
  | .shiftReg _ _ => 2
  | .shiftHL _ => 2
  | .bitReg _ _ => 2
  | .bitHL _ => 2
  | .resReg _ _ => 2
  | .resHL _ => 2
  | .setReg _ _ => 2
  | .setHL _ => 2
  | .jp _ => 3
  | .jpCond _ _ => 3
  | .jr _ => 2
  | .jrCond _ _ => 2
  | .call _ => 3
  | .callCond _ _ => 3
  | .stop _ => 2
  | .ldRegReg _ _ | .ldRegHL _ | .ldHLReg _ | .ldABC | .ldADE | .ldBCA | .ldDEA | .ldhAC | .ldhCA | .ldIncA
  | .ldDecA | .ldAInc | .ldADec | .ldSPHL | .push _ | .pop _ | .aluReg _ _ | .aluHL _ | .incReg _ | .incHL
  | .decReg _ | .decHL | .daa | .cpl | .scf | .ccf | .addHL _ | .incPair _ | .decPair _ | .rlca | .rla | .rrca
  | .rra | .jpHL | .ret | .retCond _ | .reti | .rst _ | .nop | .halt | .di | .ei | .undefined _ => 1

/-- The cost of an instruction in T-states (R510); `taken` is the condition of a conditional transfer. -/
def Form.cost (f : Form) (taken : Bool) : Nat :=
  match f with
  | .ldRegReg _ _ => 4
  | .ldRegImm _ _ => 8
  | .ldRegHL _ => 8
  | .ldHLReg _ => 8
  | .ldHLImm _ => 12
  | .ldABC => 8
  | .ldADE => 8
  | .ldBCA => 8
  | .ldDEA => 8
  | .ldAAbs _ => 16
  | .ldAbsA _ => 16
  | .ldhAImm _ => 12
  | .ldhImmA _ => 12
  | .ldhAC => 8
  | .ldhCA => 8
  | .ldIncA => 8
  | .ldDecA => 8
  | .ldAInc => 8
  | .ldADec => 8
  | .ldPairImm _ _ => 12
  | .ldAbsSP _ => 20
  | .ldSPHL => 8
  | .ldHLSPe _ => 12
  | .push _ => 16
  | .pop _ => 12
  | .aluReg _ _ => 4
  | .aluHL _ => 8
  | .aluImm _ _ => 8
  | .incReg _ => 4
  | .incHL => 12
  | .decReg _ => 4
  | .decHL => 12
  | .daa => 4
  | .cpl => 4
  | .scf => 4
  | .ccf => 4
  | .addHL _ => 8
  | .incPair _ => 8
  | .decPair _ => 8
  | .addSPe _ => 16
  | .rlca => 4
  | .rla => 4
  | .rrca => 4
  | .rra => 4
  | .shiftReg _ _ => 8
  | .shiftHL _ => 16
  | .bitReg _ _ => 8
  | .bitHL _ => 12
  | .resReg _ _ => 8
  | .resHL _ => 16
  | .setReg _ _ => 8
  | .setHL _ => 16
  | .jp _ => 16
  | .jpCond _ _ => if taken then 16 else 12
  | .jpHL => 4
  | .jr _ => 12
  | .jrCond _ _ => if taken then 12 else 8
  | .call _ => 24
  | .callCond _ _ => if taken then 24 else 12
  | .ret => 16
  | .retCond _ => if taken then 20 else 8
  | .reti => 16
  | .rst _ => 16
  | .nop => 4
  | .halt => 4
  | .stop _ => 8
  | .di => 4
  | .ei => 4
  | .undefined _ => 4

/-- The condition an instruction tests, where it tests one (R290). -/
def Form.taken (f : Form) (c : Cpu) : Bool :=
  match f with
  | .jpCond cc _ => c.holds cc
  | .jrCond cc _ => c.holds cc
  | .callCond cc _ => c.holds cc
  | .retCond cc => c.holds cc
  | .ldRegReg _ _ | .ldRegImm _ _ | .ldRegHL _ | .ldHLReg _ | .ldHLImm _ | .ldABC | .ldADE | .ldBCA | .ldDEA
  | .ldAAbs _ | .ldAbsA _ | .ldhAImm _ | .ldhImmA _ | .ldhAC | .ldhCA | .ldIncA | .ldDecA | .ldAInc | .ldADec
  | .ldPairImm _ _ | .ldAbsSP _ | .ldSPHL | .ldHLSPe _ | .push _ | .pop _ | .aluReg _ _ | .aluHL _
  | .aluImm _ _ | .incReg _ | .incHL | .decReg _ | .decHL | .daa | .cpl | .scf | .ccf | .addHL _ | .incPair _
  | .decPair _ | .addSPe _ | .rlca | .rla | .rrca | .rra | .shiftReg _ _ | .shiftHL _ | .bitReg _ _ | .bitHL _
  | .resReg _ _ | .resHL _ | .setReg _ _ | .setHL _ | .jp _ | .jpHL | .jr _ | .call _ | .ret | .reti | .rst _
  | .nop | .halt | .stop _ | .di | .ei | .undefined _ => true

end Sys2Proof
end

