-- ==== Sys2Proof/WellFormed.lean ====
section
/-! DEFINITION. Which terms of `Instr` are instructions. Every immediate is typed by its width and every value of it is
legal (R130), so the only check is on the opcode byte of an undefined opcode. -/

namespace Sys2Proof

/-- The eleven undefined base opcodes (R129). -/
def undefinedOpcodes : List Byte :=
  [0xD3#8, 0xDB#8, 0xDD#8, 0xE3#8, 0xE4#8, 0xEB#8, 0xEC#8, 0xED#8, 0xF4#8, 0xFC#8, 0xFD#8]

/-- An `undefined` form carries one of the eleven codes (R129). -/
def Form.wf : Form → Bool
  | .undefined code => undefinedOpcodes.contains code
  | _ => true

/-- An instruction is well formed when its form is. -/
def Instr.wf (i : Instr) : Bool := i.form.wf

end Sys2Proof
end

