-- ==== Sys2Proof/Certificates/Slice0/Obligations.lean ====
section
/-! DEFINITION. The statements for the provers, from the numbered rules of spec/. Their helpers come first, in the
namespace `Sys2Proof.Rule`. -/

namespace Sys2Proof.Rule

open Machine

/-! ## The encoding fields (R121 to R123) and the primitives of R18 -/

/-- `i` with `r8[i] = r` (R123). -/
def reg : Reg8 → Nat
  | .b => 0
  | .c => 1
  | .d => 2
  | .e => 3
  | .h => 4
  | .l => 5
  | .a => 7

/-- `p` with `r16[p] = rr` (R123). -/
def pair : Pair → Nat
  | .bc => 0
  | .de => 1
  | .hl => 2
  | .sp => 3

/-- `p` with `r16stk[p] = rr` (R123). -/
def stk : StkPair → Nat
  | .bc => 0
  | .de => 1
  | .hl => 2
  | .af => 3

/-- `c` with `cc[c]` (R123). -/
def cond : Cond → Nat
  | .nz => 0
  | .z => 1
  | .nc => 2
  | .c => 3

/-- `y` with `alu[y]` (R123). -/
def alu : AluOp → Nat
  | .add => 0
  | .adc => 1
  | .sub => 2
  | .sbc => 3
  | .and => 4
  | .xor => 5
  | .or => 6
  | .cp => 7

/-- `y` of a CB-page rotate or shift (R122). -/
def shift : ShiftOp → Nat
  | .rlc => 0
  | .rrc => 1
  | .rl => 2
  | .rr => 3
  | .sla => 4
  | .sra => 5
  | .swap => 6
  | .srl => 7

/-- An opcode byte. -/
def op (n : Nat) : Byte := BitVec.ofNat 8 n

/-- `f` is encoded by `bytes`, and on every state its instruction completes in the state `effect` gives. The state `exec`
starts in is the one after the instruction's bytes were fetched, so the instruction's time is 4 for each of `bytes` and
4 for each machine cycle of `effect`. -/
def Runs (f : Form) (bytes : List Byte) (effect : State → State) : Prop :=
  encode f.instr = bytes ∧ ∀ s, exec f.instr s = .next (effect s)

/-- `Push16(v)` written out (R18). -/
def pushed (v : Word) (s : State) : State :=
  let sp1 := s.cpu.sp - 1#16
  let sp2 := sp1 - 1#16
  ((((s.mapCpu fun c => { c with sp := sp1 }).writeByte sp1 (highByte v)).mapCpu fun c => { c with sp := sp2 })).writeByte
    sp2 (lowByte v)

/-- The value of `Pop16()` written out (R18): the low byte at SP, one machine cycle later the high byte at SP + 1. -/
def popValue (s : State) : Word := hiLo (s.idle.readByte (s.cpu.sp + 1#16)) (s.readByte s.cpu.sp)

/-- The state after `Pop16()` (R18). -/
def popped (s : State) : State := s.idle.idle.mapCpu fun c => { c with sp := c.sp + 1#16 + 1#16 }

/-- A byte of never-blocked internal memory under its own address: WRAM or HRAM (R83, R88). -/
def plainRam (a : Word) : Prop := 0xC000 ≤ a.toNat ∧ a.toNat ≤ 0xDFFF ∨ 0xFF80 ≤ a.toNat ∧ a.toNat ≤ 0xFFFE

end Sys2Proof.Rule

open Sys2Proof Sys2Proof.Machine

/-! ## Results: what every instruction does, with its encoding -/

/-- `LD r,r'` and `LD r,d8` (R151, R152): the constructors `ld_B_B` to `ld_A_A` and `ld_B_d8` to `ld_A_d8`. -/
def Obligations.LoadRegister : Prop :=
  ∀ (dst src : Reg8) (n : Byte),
    Rule.Runs (.ldRegReg dst src) [Rule.op (0x40 + 8 * Rule.reg dst + Rule.reg src)]
      (fun s => s.mapCpu fun c => c.setReg dst (c.reg src)) ∧
    Rule.Runs (.ldRegImm dst n) [Rule.op (0x06 + 8 * Rule.reg dst), n] (fun s => s.mapCpu fun c => c.setReg dst n)

/-- The loads from memory without autoincrement (R153, R156, R157, R160, R162, R164): `ld_B_atHL` to `ld_A_atHL`,
`ld_A_atBC`, `ld_A_atDE`, `ld_A_atA16`, `ldh_A_atA8`, `ld_A_atC`. The byte is read with the old registers. -/
def Obligations.LoadFromMemory : Prop :=
  ∀ (dst : Reg8) (addr : Word) (n : Byte),
    Rule.Runs (.ldRegHL dst) [Rule.op (0x46 + 8 * Rule.reg dst)]
      (fun s => s.idle.mapCpu fun c => c.setReg dst (s.readByte s.cpu.hl)) ∧
    Rule.Runs .ldABC [0x0A#8] (fun s => s.idle.mapCpu fun c => { c with a := s.readByte s.cpu.bc }) ∧
    Rule.Runs .ldADE [0x1A#8] (fun s => s.idle.mapCpu fun c => { c with a := s.readByte s.cpu.de }) ∧
    Rule.Runs (.ldAAbs addr) [0xFA#8, lowByte addr, highByte addr]
      (fun s => s.idle.mapCpu fun c => { c with a := s.readByte addr }) ∧
    Rule.Runs (.ldhAImm n) [0xF0#8, n] (fun s => s.idle.mapCpu fun c => { c with a := s.readByte (hiLo 0xFF#8 n) }) ∧
    Rule.Runs .ldhAC [0xF2#8] (fun s => s.idle.mapCpu fun c => { c with a := s.readByte (hiLo 0xFF#8 s.cpu.c) })

/-- The stores without autoincrement (R154, R155, R158, R159, R161, R163, R165): `ld_atHL_B` to `ld_atHL_A`,
`ld_atHL_d8`, `ld_atBC_A`, `ld_atDE_A`, `ld_atA16_A`, `ldh_atA8_A`, `ld_atC_A`. -/
def Obligations.StoreToMemory : Prop :=
  ∀ (src : Reg8) (addr : Word) (n : Byte),
    Rule.Runs (.ldHLReg src) [Rule.op (0x70 + Rule.reg src)] (fun s => s.writeByte s.cpu.hl (s.cpu.reg src)) ∧
    Rule.Runs (.ldHLImm n) [0x36#8, n] (fun s => s.writeByte s.cpu.hl n) ∧
    Rule.Runs .ldBCA [0x02#8] (fun s => s.writeByte s.cpu.bc s.cpu.a) ∧
    Rule.Runs .ldDEA [0x12#8] (fun s => s.writeByte s.cpu.de s.cpu.a) ∧
    Rule.Runs (.ldAbsA addr) [0xEA#8, lowByte addr, highByte addr] (fun s => s.writeByte addr s.cpu.a) ∧
    Rule.Runs (.ldhImmA n) [0xE0#8, n] (fun s => s.writeByte (hiLo 0xFF#8 n) s.cpu.a) ∧
    Rule.Runs .ldhCA [0xE2#8] (fun s => s.writeByte (hiLo 0xFF#8 s.cpu.c) s.cpu.a)

/-- The autoincrement and autodecrement loads (R166 to R169): `ld_atHLI_A`, `ld_atHLD_A`, `ld_A_atHLI`, `ld_A_atHLD`. -/
def Obligations.LoadAutoincrement : Prop :=
  Rule.Runs .ldIncA [0x22#8] (fun s => (s.writeByte s.cpu.hl s.cpu.a).mapCpu fun c => c.setHL (s.cpu.hl + 1#16)) ∧
  Rule.Runs .ldDecA [0x32#8] (fun s => (s.writeByte s.cpu.hl s.cpu.a).mapCpu fun c => c.setHL (s.cpu.hl - 1#16)) ∧
  Rule.Runs .ldAInc [0x2A#8]
    (fun s => s.idle.mapCpu fun c => ({ c with a := s.readByte s.cpu.hl } : Cpu).setHL (s.cpu.hl + 1#16)) ∧
  Rule.Runs .ldADec [0x3A#8]
    (fun s => s.idle.mapCpu fun c => ({ c with a := s.readByte s.cpu.hl } : Cpu).setHL (s.cpu.hl - 1#16))

/-- The 16-bit loads (R191 to R194): `ld_BC_d16` to `ld_SP_d16`, `ld_atA16_SP`, `ld_SP_HL`, `ld_HL_SP_e8`. -/
def Obligations.LoadWord : Prop :=
  ∀ (dst : Pair) (nn addr : Word) (e : Byte),
    Rule.Runs (.ldPairImm dst nn) [Rule.op (0x01 + 16 * Rule.pair dst), lowByte nn, highByte nn]
      (fun s => s.mapCpu fun c => c.setPair dst nn) ∧
    Rule.Runs (.ldAbsSP addr) [0x08#8, lowByte addr, highByte addr]
      (fun s => (s.writeByte addr (lowByte s.cpu.sp)).writeByte (addr + 1#16) (highByte s.cpu.sp)) ∧
    Rule.Runs .ldSPHL [0xF9#8] (fun s => (s.mapCpu fun c => { c with sp := c.hl }).idle) ∧
    Rule.Runs (.ldHLSPe e) [0xF8#8, e]
      (fun s => (s.mapCpu fun c => (c.setHL (c.sp + e.signExtend 16)).setFlags false false
        (decide (c.sp.toNat % 16 + e.toNat % 16 > 0xF)) (decide (c.sp.toNat % 256 + e.toNat > 0xFF))).idle)

/-- The stack instructions (R195 to R197): `push_BC` to `push_AF`, `pop_BC` to `pop_AF`. -/
def Obligations.PushAndPop : Prop :=
  ∀ rr : StkPair,
    Rule.Runs (.push rr) [Rule.op (0xC5 + 16 * Rule.stk rr)]
      (fun s => Rule.pushed
        (match rr with
          | .bc => hiLo s.cpu.b s.cpu.c
          | .de => hiLo s.cpu.d s.cpu.e
          | .hl => hiLo s.cpu.h s.cpu.l
          | .af => hiLo s.cpu.a (s.cpu.f &&& 0xF0#8)) s.idle) ∧
    Rule.Runs (.pop rr) [Rule.op (0xC1 + 16 * Rule.stk rr)]
      (fun s => (Rule.popped s).mapCpu fun c =>
        let hi := highByte (Rule.popValue s)
        let lo := lowByte (Rule.popValue s)
        match rr with
        | .bc => { c with b := hi, c := lo }
        | .de => { c with d := hi, e := lo }
        | .hl => { c with h := hi, l := lo }
        | .af => { c with a := hi, f := lo &&& 0xF0#8 })

/-- What an ALU operation gives: the new A and the flags (R213 to R236). -/
def Sys2Proof.Rule.aluResult (o : AluOp) (x : Byte) (c : Cpu) : Cpu :=
  let write (v : Byte) (r : Res8) : Cpu := ({ c with a := v } : Cpu).setFlags r.z r.n r.h r.c
  match o with
  | .add => write (add8 c.a x false).value (add8 c.a x false)
  | .adc => write (add8 c.a x c.flagC).value (add8 c.a x c.flagC)
  | .sub => write (sub8 c.a x false).value (sub8 c.a x false)
  | .sbc => write (sub8 c.a x c.flagC).value (sub8 c.a x c.flagC)
  | .and => ({ c with a := c.a &&& x } : Cpu).setFlags (decide (c.a &&& x = 0#8)) false true false
  | .xor => ({ c with a := c.a ^^^ x } : Cpu).setFlags (decide (c.a ^^^ x = 0#8)) false false false
  | .or => ({ c with a := c.a ||| x } : Cpu).setFlags (decide (c.a ||| x = 0#8)) false false false
  | .cp => write c.a (sub8 c.a x false)

/-- The ALU operations on a register (R213, R216, R219, R222, R225, R228, R231, R234): `add_A_B` to `cp_A`. -/
def Obligations.AluOnRegister : Prop :=
  ∀ (o : AluOp) (r : Reg8),
    Rule.Runs (.aluReg o r) [Rule.op (0x80 + 8 * Rule.alu o + Rule.reg r)]
      (fun s => s.mapCpu fun c => Rule.aluResult o (c.reg r) c)

/-- The ALU operations on the byte at HL (R214, R217, R220, R223, R226, R229, R232, R235): `add_A_atHL` to `cp_atHL`. -/
def Obligations.AluOnMemory : Prop :=
  ∀ o : AluOp,
    Rule.Runs (.aluHL o) [Rule.op (0x86 + 8 * Rule.alu o)]
      (fun s => s.idle.mapCpu fun c => Rule.aluResult o (s.readByte s.cpu.hl) c)

/-- The ALU operations on an immediate (R215, R218, R221, R224, R227, R230, R233, R236): `add_A_d8` to `cp_d8`. -/
def Obligations.AluOnImmediate : Prop :=
  ∀ (o : AluOp) (n : Byte),
    Rule.Runs (.aluImm o n) [Rule.op (0xC6 + 8 * Rule.alu o), n] (fun s => s.mapCpu fun c => Rule.aluResult o n c)

/-- The two arithmetic functions (R212), on numbers. -/
def Obligations.AddSubFunctions : Prop :=
  ∀ (a x : Byte) (cin : Bool),
    let k := if cin then 1 else 0
    let d : Int := (a.toNat : Int) - (x.toNat : Int) - (k : Int)
    (add8 a x cin).value.toNat = (a.toNat + x.toNat + k) % 256 ∧
    ((add8 a x cin).z = true ↔ (a.toNat + x.toNat + k) % 256 = 0) ∧
    (add8 a x cin).n = false ∧
    ((add8 a x cin).h = true ↔ a.toNat % 16 + x.toNat % 16 + k > 0xF) ∧
    ((add8 a x cin).c = true ↔ a.toNat + x.toNat + k > 0xFF) ∧
    ((sub8 a x cin).value.toNat : Int) = d % 256 ∧
    ((sub8 a x cin).z = true ↔ d % 256 = 0) ∧
    (sub8 a x cin).n = true ∧
    ((sub8 a x cin).h = true ↔ a.toNat % 16 < x.toNat % 16 + k) ∧
    ((sub8 a x cin).c = true ↔ d < 0)

/-- `INC` and `DEC` of a register and of the byte at HL (R237 to R240): `inc_B` to `inc_A`, `inc_atHL`, `dec_B` to `dec_A`,
`dec_atHL`. C is not changed. -/
def Obligations.IncrementDecrement : Prop :=
  let incFlags (v : Byte) (c : Cpu) : Cpu := c.setFlags (decide (v = 0xFF#8)) false (decide (v.toNat % 16 = 0xF)) c.flagC
  let decFlags (v : Byte) (c : Cpu) : Cpu := c.setFlags (decide (v = 0x01#8)) true (decide (v.toNat % 16 = 0x0)) c.flagC
  ∀ r : Reg8,
    Rule.Runs (.incReg r) [Rule.op (0x04 + 8 * Rule.reg r)]
      (fun s => s.mapCpu fun c => incFlags (c.reg r) (c.setReg r (c.reg r + 1#8))) ∧
    Rule.Runs (.decReg r) [Rule.op (0x05 + 8 * Rule.reg r)]
      (fun s => s.mapCpu fun c => decFlags (c.reg r) (c.setReg r (c.reg r - 1#8))) ∧
    Rule.Runs .incHL [0x34#8]
      (fun s => (s.idle.writeByte s.cpu.hl (s.readByte s.cpu.hl + 1#8)).mapCpu (incFlags (s.readByte s.cpu.hl))) ∧
    Rule.Runs .decHL [0x35#8]
      (fun s => (s.idle.writeByte s.cpu.hl (s.readByte s.cpu.hl - 1#8)).mapCpu (decFlags (s.readByte s.cpu.hl)))

/-- `DAA`, `CPL`, `SCF`, `CCF` (R241 to R244): `daa`, `cpl`, `scf`, `ccf`. -/
def Obligations.AdjustComplementCarry : Prop :=
  Rule.Runs .daa [0x27#8]
    (fun s => s.mapCpu fun c =>
      let low := if c.flagN then c.flagH else c.flagH || decide (c.a.toNat % 16 > 9)
      let high := if c.flagN then c.flagC else c.flagC || decide (c.a.toNat > 0x99)
      let adj : Byte := (if low then 0x06#8 else 0x00#8) ||| (if high then 0x60#8 else 0x00#8)
      let v := if c.flagN then c.a - adj else c.a + adj
      ({ c with a := v } : Cpu).setFlags (decide (v = 0#8)) c.flagN false (if c.flagN then c.flagC else high)) ∧
  Rule.Runs .cpl [0x2F#8] (fun s => s.mapCpu fun c => ({ c with a := ~~~c.a } : Cpu).setFlags c.flagZ true true c.flagC) ∧
  Rule.Runs .scf [0x37#8] (fun s => s.mapCpu fun c => c.setFlags c.flagZ false false true) ∧
  Rule.Runs .ccf [0x3F#8] (fun s => s.mapCpu fun c => c.setFlags c.flagZ false false (!c.flagC))

/-- The 16-bit arithmetic (R251 to R254): `add_HL_BC` to `add_HL_SP`, `inc_BC` to `inc_SP`, `dec_BC` to `dec_SP`,
`add_SP_e8`. -/
def Obligations.WordArithmetic : Prop :=
  ∀ (rr : Pair) (e : Byte),
    Rule.Runs (.addHL rr) [Rule.op (0x09 + 16 * Rule.pair rr)]
      (fun s => (s.mapCpu fun c => (c.setHL (c.hl + c.pair rr)).setFlags c.flagZ false
        (decide (c.hl.toNat % 0x1000 + (c.pair rr).toNat % 0x1000 > 0xFFF))
        (decide (c.hl.toNat + (c.pair rr).toNat > 0xFFFF))).idle) ∧
    Rule.Runs (.incPair rr) [Rule.op (0x03 + 16 * Rule.pair rr)]
      (fun s => (s.mapCpu fun c => c.setPair rr (c.pair rr + 1#16)).idle) ∧
    Rule.Runs (.decPair rr) [Rule.op (0x0B + 16 * Rule.pair rr)]
      (fun s => (s.mapCpu fun c => c.setPair rr (c.pair rr - 1#16)).idle) ∧
    Rule.Runs (.addSPe e) [0xE8#8, e]
      (fun s => s.idle.idle.mapCpu fun c => ({ c with sp := c.sp + e.signExtend 16 } : Cpu).setFlags false false
        (decide (c.sp.toNat % 16 + e.toNat % 16 > 0xF)) (decide (c.sp.toNat % 256 + e.toNat > 0xFF)))

/-- The accumulator rotates (R261 to R264): `rlca`, `rla`, `rrca`, `rra`; Z is always 0. -/
def Obligations.AccumulatorRotates : Prop :=
  let rotate (o : ShiftOp) (s : State) : State := s.mapCpu fun c =>
    ({ c with a := (shift8 o c.a c.flagC).1 } : Cpu).setFlags false false false (shift8 o c.a c.flagC).2
  Rule.Runs .rlca [0x07#8] (rotate .rlc) ∧ Rule.Runs .rla [0x17#8] (rotate .rl) ∧
  Rule.Runs .rrca [0x0F#8] (rotate .rrc) ∧ Rule.Runs .rra [0x1F#8] (rotate .rr)

/-- The CB-page rotates and shifts of a register (R265, R267, R269, R271, R273, R275, R277, R279): `rlc_B` to `srl_A`. -/
def Obligations.ShiftOnRegister : Prop :=
  ∀ (o : ShiftOp) (r : Reg8),
    Rule.Runs (.shiftReg o r) [0xCB#8, Rule.op (8 * Rule.shift o + Rule.reg r)]
      (fun s => s.mapCpu fun c =>
        let q := shift8 o (c.reg r) c.flagC
        (c.setReg r q.1).setFlags (decide (q.1 = 0#8)) false false q.2)

/-- The same of the byte at HL (R266, R268, R270, R272, R274, R276, R278, R280): `rlc_atHL` to `srl_atHL`; a read, and a
write one machine cycle later. -/
def Obligations.ShiftOnMemory : Prop :=
  ∀ o : ShiftOp,
    Rule.Runs (.shiftHL o) [0xCB#8, Rule.op (8 * Rule.shift o + 6)]
      (fun s =>
        let q := shift8 o (s.readByte s.cpu.hl) s.cpu.flagC
        (s.idle.writeByte s.cpu.hl q.1).mapCpu fun c => c.setFlags (decide (q.1 = 0#8)) false false q.2)

/-- The eight one-bit functions (R260), on numbers: the result and the carry out. -/
def Obligations.ShiftFunctions : Prop :=
  ∀ (v : Byte) (cin : Bool),
    let n := v.toNat
    let k := if cin then 1 else 0
    let top := decide (n / 128 = 1)
    let bottom := decide (n % 2 = 1)
    shift8 .rlc v cin = (BitVec.ofNat 8 (2 * n % 256 + n / 128), top) ∧
    shift8 .rrc v cin = (BitVec.ofNat 8 (n / 2 + 128 * (n % 2)), bottom) ∧
    shift8 .rl v cin = (BitVec.ofNat 8 (2 * n % 256 + k), top) ∧
    shift8 .rr v cin = (BitVec.ofNat 8 (n / 2 + 128 * k), bottom) ∧
    shift8 .sla v cin = (BitVec.ofNat 8 (2 * n % 256), top) ∧
    shift8 .sra v cin = (BitVec.ofNat 8 (n / 2 + 128 * (n / 128)), bottom) ∧
    shift8 .swap v cin = (BitVec.ofNat 8 (16 * (n % 16) + n / 16), false) ∧
    shift8 .srl v cin = (BitVec.ofNat 8 (n / 2), bottom)

/-- `BIT`, `RES`, `SET` on a register and on the byte at HL (R281 to R286): `bit_0_B` to `set_7_A`. -/
def Obligations.BitTestResetSet : Prop :=
  ∀ (b : Fin 8) (r : Reg8),
    Rule.Runs (.bitReg b r) [0xCB#8, Rule.op (0x40 + 8 * b.val + Rule.reg r)]
      (fun s => s.mapCpu fun c => c.setFlags (!(c.reg r).getLsbD b.val) false true c.flagC) ∧
    Rule.Runs (.bitHL b) [0xCB#8, Rule.op (0x40 + 8 * b.val + 6)]
      (fun s => s.idle.mapCpu fun c => c.setFlags (!(s.readByte s.cpu.hl).getLsbD b.val) false true c.flagC) ∧
    Rule.Runs (.resReg b r) [0xCB#8, Rule.op (0x80 + 8 * b.val + Rule.reg r)]
      (fun s => s.mapCpu fun c => c.setReg r (c.reg r &&& ~~~(1#8 <<< b.val))) ∧
    Rule.Runs (.resHL b) [0xCB#8, Rule.op (0x80 + 8 * b.val + 6)]
      (fun s => s.idle.writeByte s.cpu.hl (s.readByte s.cpu.hl &&& ~~~(1#8 <<< b.val))) ∧
    Rule.Runs (.setReg b r) [0xCB#8, Rule.op (0xC0 + 8 * b.val + Rule.reg r)]
      (fun s => s.mapCpu fun c => c.setReg r (c.reg r ||| (1#8 <<< b.val))) ∧
    Rule.Runs (.setHL b) [0xCB#8, Rule.op (0xC0 + 8 * b.val + 6)]
      (fun s => s.idle.writeByte s.cpu.hl (s.readByte s.cpu.hl ||| (1#8 <<< b.val)))

/-- The jumps (R291 to R295): `jp_a16`, `jp_NZ_a16` to `jp_C_a16`, `jp_HL`, `jr_e8`, `jr_NZ_e8` to `jr_C_e8`. PC is the
address of the next instruction when the operation starts. -/
def Obligations.Jumps : Prop :=
  ∀ (cc : Cond) (addr : Word) (e : Byte),
    Rule.Runs (.jp addr) [0xC3#8, lowByte addr, highByte addr] (fun s => (s.mapCpu fun c => { c with pc := addr }).idle) ∧
    Rule.Runs (.jpCond cc addr) [Rule.op (0xC2 + 8 * Rule.cond cc), lowByte addr, highByte addr]
      (fun s => if s.cpu.holds cc then (s.mapCpu fun c => { c with pc := addr }).idle else s) ∧
    Rule.Runs .jpHL [0xE9#8] (fun s => s.mapCpu fun c => { c with pc := c.hl }) ∧
    Rule.Runs (.jr e) [0x18#8, e] (fun s => (s.mapCpu fun c => { c with pc := c.pc + e.signExtend 16 }).idle) ∧
    Rule.Runs (.jrCond cc e) [Rule.op (0x20 + 8 * Rule.cond cc), e]
      (fun s => if s.cpu.holds cc then (s.mapCpu fun c => { c with pc := c.pc + e.signExtend 16 }).idle else s)

/-- Calls, returns and restarts (R296 to R300, R305): `call_a16`, `call_NZ_a16` to `call_C_a16`, `ret`, `ret_NZ` to
`ret_C`, `reti`, `rst_00` to `rst_38`. -/
def Obligations.CallsAndReturns : Prop :=
  let calls (addr : Word) (s : State) : State := (Rule.pushed s.cpu.pc s.idle).mapCpu fun c => { c with pc := addr }
  let returns (s : State) : State := ((Rule.popped s).mapCpu fun c => { c with pc := Rule.popValue s }).idle
  ∀ (cc : Cond) (addr : Word) (y : Fin 8),
    Rule.Runs (.call addr) [0xCD#8, lowByte addr, highByte addr] (calls addr) ∧
    Rule.Runs (.callCond cc addr) [Rule.op (0xC4 + 8 * Rule.cond cc), lowByte addr, highByte addr]
      (fun s => if s.cpu.holds cc then calls addr s else s) ∧
    Rule.Runs .ret [0xC9#8] returns ∧
    Rule.Runs (.retCond cc) [Rule.op (0xC0 + 8 * Rule.cond cc)]
      (fun s => if s.cpu.holds cc then returns s.idle else s.idle) ∧
    Rule.Runs .reti [0xD9#8] (fun s => (returns s).mapCpu fun c => { c with ime := true }) ∧
    Rule.Runs (.rst y) [Rule.op (0xC7 + 8 * y.val)] (calls (BitVec.ofNat 16 (8 * y.val)))

/-- `NOP`, `HALT`, `STOP`, `DI` (R322, R323, R324, R327): `nop`, `halt`, `stop`, `di`; and the outcome `Halted` of the step
that executes `HALT` or `STOP` (R321), in the model's report field (log entry 9). -/
def Obligations.ProcessorControl : Prop :=
  Rule.Runs .nop [0x00#8] (fun s => s) ∧
  Rule.Runs .halt [0x76#8] (fun s => s.mapCpu fun c => { c with mode := .halted }) ∧
  (∀ pad, Rule.Runs (.stop pad) [0x10#8, pad] (fun s => s.mapCpu fun c => { c with mode := .stopped })) ∧
  Rule.Runs .di [0xF3#8] (fun s => s.mapCpu fun c => { c with ime := false, imePending := false }) ∧
  (∀ (i : Instr) (pad : Byte) (s t : State) (p : Bool), i = .halt ∨ i = .stop pad → s.outside.outcome = none →
    exec i s = .next t → (t.finishStep p).outside.outcome = some .halted)

/-- An undefined opcode (R329, R341): `undefined`. The outcome is reported and nothing else changes. That this is a next
state with the outcome in a report field, where R342 names fault as a model's treatment, is the model's choice (log entries
7 and 9). -/
def Obligations.UndefinedOpcode : Prop :=
  ∀ code : Byte, (Instr.undefined code).wf = true →
    encode (.undefined code) = [code] ∧
    ∀ s, exec (.undefined code) s = .next { s with outside := { s.outside with outcome := some (.unknownOpcode code) } }

/-! ## Encoding -/

/-- Words written out from the encodings of spec/ (R126, R127), one or more of each family. -/
def Obligations.DecodeWords : Prop :=
  decode [0x78#8] = .ok (.ld_A_B, []) ∧ decode [0x0E#8, 0x9F#8] = .ok (.ld_C_d8 0x9F#8, []) ∧
  decode [0x21#8, 0x00#8, 0x98#8] = .ok (.ld_HL_d16 0x9800#16, []) ∧ decode [0xF5#8] = .ok (.push_AF, []) ∧
  decode [0xBE#8] = .ok (.cp_atHL, []) ∧ decode [0x29#8] = .ok (.add_HL_HL, []) ∧
  decode [0xCB#8, 0x37#8] = .ok (.swap_A, []) ∧ decode [0xCB#8, 0x9E#8] = .ok (.res_3_atHL, []) ∧
  decode [0xC3#8, 0x50#8, 0x01#8] = .ok (.jp_a16 0x0150#16, []) ∧ decode [0xEF#8] = .ok (.rst_28, []) ∧
  decode [0x76#8] = .ok (.halt, []) ∧ decode [0xFC#8] = .ok (.undefined 0xFC#8, []) ∧
  decode [0x10#8, 0x00#8, 0x76#8] = .ok (.stop 0x00#8, [0x76#8])

/-- Decoding the encoding of a well-formed instruction gives it back, and the bytes after it untouched. -/
def Obligations.DecodeOfEncode : Prop :=
  ∀ (i : Instr) (rest : List Byte), i.wf = true → decode (encode i ++ rest) = .ok (i, rest)

/-- Bytes that decode are the encoding of the well-formed instruction they decode to: no two words share a meaning. -/
def Obligations.EncodeOfDecode : Prop :=
  ∀ (bs rest : List Byte) (i : Instr), decode bs = .ok (i, rest) → i.wf = true ∧ bs = encode i ++ rest

/-- The decoder is total, never looks ahead, and finds the eleven undefined opcodes and no others (R125, R129). -/
def Obligations.DecoderTotal : Prop :=
  (∀ (op b1 b2 : Byte) (rest : List Byte), ∃ i : Instr,
    decode (op :: b1 :: b2 :: rest) = .ok (i, (op :: b1 :: b2 :: rest).drop i.length) ∧
      1 ≤ i.length ∧ i.length ≤ 3) ∧
  (∀ (op : Byte) (bs rest : List Byte) (i : Instr), decode (op :: bs) = .ok (i, rest) →
    ((∃ code, i = .undefined code) ↔
      op ∈ [0xD3#8, 0xDB#8, 0xDD#8, 0xE3#8, 0xE4#8, 0xEB#8, 0xEC#8, 0xED#8, 0xF4#8, 0xFC#8, 0xFD#8]) ∧
    ∀ code, i = .undefined code → code = op ∧ rest = bs)

/-! ## The step -/

/-- A step runs the decoded instruction: when no interrupt is taken and the processor does not stay asleep, and the bytes
`Fetch8` reads at PC are one instruction of the dispatch table, the step is `exec` of it on the state after the fetch, then
the end of `Step()` and of the iteration (R321, R471). The default table decodes as the opcode maps say. The refresh folded
into the step, the recorded outcome, the fetch before the operation and the table as a parameter are the model's (log
entries 5, 8, 9, 10 and 15). -/
def Obligations.StepRunsDecoded : Prop :=
  (∀ (s u : State) (n : Nat) (bs : List Byte) (i : Instr),
    s.beginFrame.interruptTaken = none → s.beginFrame.asleep = false →
    State.fetchBytes n s.beginFrame.awake = (bs, u) → decodeWith s.cfg.dispatch bs = .ok (i, []) →
    step s = match exec i u with
      | .next t => .next (t.finishStep s.beginFrame.eiMatures).afterStep
      | .fault e => .fault e
      | .refused e => .refused e) ∧
  ∀ bs : List Byte, decodeWith DispatchTable.default bs = decode bs

/-- Every step completes, and takes 4 to 24 cycles, a multiple of 4 (R343, R476). That every state has a next step is the
model's choice: its host always calls `RunFrame` again (log entry 8), and an undefined opcode is a next state (log entry
7); an operation that only another dispatch table holds is bounded by R476 (log entry 15). -/
def Obligations.StepAlwaysCompletes : Prop :=
  ∀ s : State, ∃ (t : State) (n : Nat), step s = .next t ∧ 1 ≤ n ∧ n ≤ 6 ∧
    (s.units.cycles < frameCycles → t.units.cycles = (s.units.cycles + 4 * n) % frameCycles)

/-- The fetch and the cost of every instruction. Byte k of `n` bytes fetched is what the bus reads at PC + k, k + 1 machine
cycles later; the fetch leaves PC advanced by n and nothing else changed but the units, by their ticks (R18, R24, R74). The
operation costs what the table leaves after 4 cycles for each byte (R510); its cost depends only on the opcode and, for a
conditional transfer, on the flags (R512). -/
def Obligations.CycleCost : Prop :=
  (∀ (n : Nat) (s u : State) (bs : List Byte), State.fetchBytes n s = (bs, u) →
    bs.length = n ∧
    (∀ k < n, bs[k]? =
      some (busRead s.cfg s.outside.latch (ticks (4 * (k + 1)) s.units) (s.cpu.pc + BitVec.ofNat 16 k))) ∧
    u = { s with cpu := { s.cpu with pc := s.cpu.pc + BitVec.ofNat 16 n }, units := ticks (4 * n) s.units } ∧
    (s.units.cycles < frameCycles → u.units.cycles = (s.units.cycles + 4 * n) % frameCycles)) ∧
  (∀ (f : Form) (s t : State), s.units.cycles < frameCycles → exec f.instr s = .next t →
    4 * f.instr.length ≤ f.cost (f.taken s.cpu) ∧
    t.units.cycles = (s.units.cycles + (f.cost (f.taken s.cpu) - 4 * f.instr.length)) % frameCycles)

/-! ## Frames -/

/-- The flag table (R211), for every instruction; F as a whole is unchanged where the table has four dashes, and its low
nibble stays zero otherwise. Interrupt service changes no flag. -/
def Obligations.FlagTable : Prop :=
  (∀ (f : Form) (s t : State), exec f.instr s = .next t →
    f.flagRow.z.allows s.cpu.flagZ t.cpu.flagZ ∧ f.flagRow.n.allows s.cpu.flagN t.cpu.flagN ∧
    f.flagRow.h.allows s.cpu.flagH t.cpu.flagH ∧ f.flagRow.c.allows s.cpu.flagC t.cpu.flagC ∧
    (if f.flagRow = ⟨.kept, .kept, .kept, .kept⟩ then t.cpu.f = s.cpu.f else t.cpu.f &&& 0x0F#8 = 0#8)) ∧
  ∀ (k : Nat) (s : State), (s.serviceInterrupt k).cpu.f = s.cpu.f

/-- The frame of the processor, for every instruction: the registers its rule does not name are unchanged, SP is what its
rule says, PC after the fetch changes only by a jump, call, return or restart that is taken, IME, `imePending` and `mode` change only by the instructions that name them, the host's side only by an
undefined opcode, the configuration never. -/
def Obligations.ProcessorFrame : Prop :=
  ∀ (f : Form) (s t : State), exec f.instr s = .next t →
    (∀ r, r ∉ f.writesRegs → t.cpu.reg r = s.cpu.reg r) ∧
    t.cpu.sp = f.spAfter s.cpu ∧
    (match f with
      | .jp _ | .jpHL | .jr _ | .call _ | .ret | .reti | .rst _ => True
      | .jpCond cc _ | .jrCond cc _ | .callCond cc _ | .retCond cc => s.cpu.holds cc = false → t.cpu.pc = s.cpu.pc
      | _ => t.cpu.pc = s.cpu.pc) ∧
    t.cpu.ime = (if f = .di then false else if f = .reti then true
      else if f = .ei ∧ s.cfg.eiDelay = false then true else s.cpu.ime) ∧
    t.cpu.imePending = (if f = .di then false else if f = .ei ∧ s.cfg.eiDelay = true then true else s.cpu.imePending) ∧
    t.cpu.mode = (match f with
      | .halt => .halted
      | .stop _ => .stopped
      | _ => s.cpu.mode) ∧
    ((∀ code, f ≠ .undefined code) → t.outside = s.outside) ∧
    t.cfg = s.cfg

/-- The frame of memory, for every instruction: a byte of internal memory that none of the stored addresses reaches reads
as before. The stored addresses are computed from the registers before the operation; an echo address reaches the WRAM
byte it mirrors (R84). Where none of them is an I/O register or IE, none of the special registers that only writes change
is changed; where none of them is the cartridge's, the cartridge's state is not. -/
def Obligations.MemoryFrame : Prop :=
  ∀ (f : Form) (s t : State), exec f.instr s = .next t →
    (∀ addr : Word, (∀ w ∈ f.stores s.cpu, ramKey w.toNat ≠ ramKey addr.toNat) → t.ramByte addr = s.ramByte addr) ∧
    ((∀ w ∈ f.stores s.cpu, w.toNat < 0xFF00 ∨ 0xFF80 ≤ w.toNat ∧ w.toNat ≤ 0xFFFE) →
      { t.units.held with mem := s.units.held.mem, cart := s.units.held.cart } = s.units.held) ∧
    ((∀ w ∈ f.stores s.cpu, ¬(w.toNat ≤ 0x7FFF ∨ 0xA000 ≤ w.toNat ∧ w.toNat ≤ 0xBFFF)) →
      t.units.bus.cart = s.units.bus.cart)

/-- An instruction that stores nothing changes the units only by its ticks: none of the memories, BANK, the joypad select
bits, the cartridge's state, TMA, TAC, IE, LYC or the PPU registers changes. -/
def Obligations.TimeFrame : Prop :=
  ∀ (f : Form) (s t : State), exec f.instr s = .next t → f.stores s.cpu = [] →
    t.units = ticks (f.cost (f.taken s.cpu) - 4 * f.instr.length) s.units ∧ t.units.held = s.units.held

/-! ## The invariant, reset and power-on -/

/-- The invariant holds at reset (R56). -/
def Obligations.InvariantAtReset : Prop := State.reset.Inv

/-- Every step keeps the invariant (R56). -/
def Obligations.InvariantPreserved : Prop := ∀ s t : State, s.Inv → step s = .next t → t.Inv

/-- The invariant holds after any power-on whose memory contents are in canonical form (R56, R493). -/
def Obligations.InvariantAtPowerOn : Prop :=
  ∀ x : Launch, Memory.wf x.mem = true → Memory.inRam x.mem = true → (State.powerOn x).Inv

/-- Power-on: which images are present, the registers, PC and BANK they lead to, and every other reset value (R491, R492).
The registers of a launch with a boot image and the internal memories of every launch, which R491 and R492 call unspecified,
are the launch's own, as R493 takes them (log entries 2 and 3). -/
def Obligations.PowerOnValues : Prop :=
  ∀ x : Launch,
    let s := State.powerOn x
    (s.cfg.boot.isSome = true ↔ ∃ bs, x.bootFile = some bs ∧ bs.length = 256) ∧
    (s.cfg.rom.isSome = true ↔ ∃ bs, x.cartFile = some bs ∧ 32768 ≤ bs.length) ∧
    (s.cfg.boot.isSome = false → s.cpu.a = 0x01#8 ∧ s.cpu.f = 0x00#8 ∧ s.cpu.b = 0x00#8 ∧ s.cpu.c = 0x13#8 ∧
      s.cpu.d = 0x00#8 ∧ s.cpu.e = 0xD8#8 ∧ s.cpu.h = 0x01#8 ∧ s.cpu.l = 0x4D#8 ∧ s.cpu.sp = 0xFFFE#16 ∧
      s.cpu.pc = 0x0100#16 ∧ s.units.bus.bank = 0x01#8) ∧
    (s.cfg.boot.isSome = true → s.cpu.a = x.a ∧ s.cpu.f = x.f &&& 0xF0#8 ∧ s.cpu.b = x.b ∧ s.cpu.c = x.c ∧ s.cpu.d = x.d ∧
      s.cpu.e = x.e ∧ s.cpu.h = x.h ∧ s.cpu.l = x.l ∧ s.cpu.sp = x.sp ∧ s.cpu.pc = 0x0000#16 ∧
      s.units.bus.bank = 0x00#8) ∧
    s.cpu.ime = false ∧ s.cpu.imePending = false ∧ s.cpu.mode = .running ∧
    s.units.cycles = 0 ∧ s.units.frameDone = false ∧
    s.units.timer = {
      div := 0x00#8, tima := 0x00#8, tma := 0x00#8, tac := 0#3, nextDIVCycle := 256, nextTIMACycle := 1024,
      intFlag := 0#5, intEnable := 0x00#8, ly := 0x00#8, lyc := 0x00#8 } ∧
    s.units.bus.mem = x.mem ∧ s.units.bus.joypSelect = 0b00#2 ∧ s.units.bus.vramBlocked = false ∧
    s.units.bus.oamBlocked = true ∧
    s.units.ppu = {
      mode := .oamScan, lcdc := 0x00#8, statEnable := 0#4, scy := 0x00#8, scx := 0x00#8, bgp := 0x00#8, obp0 := 0x00#8, obp1 := 0x00#8, fetchX := 0, fetchStep := .getTile, fetchDot := false, fetchDummy := true,
      tileNo := 0x00#8, tileLo := 0x00#8, tileHi := 0x00#8, bgFifo := [], spriteFifo := [], scan := [], lcdX := 0,
      discard := 0, stall := 0, pendingSprite := none, lcd := [], frameReady := false, blankFrame := true } ∧
    s.outside.latch = InputLatch.none

/-- `State.reset` is the power-on with neither image and the default parameters (R491, R8). That reset is this one of the
table's rows, and that a byte of memory nothing has written is 0x00, are the model's choices (log entries 1 and 2). -/
def Obligations.ResetIsPowerOn : Prop :=
  ∀ x : Launch, x.bootFile = none → x.cartFile = none → x.cartridge = .minimal → x.dispatch = DispatchTable.default →
    x.eiDelay = true → x.ioImplemented = IoReg.default → x.mem = [] →
    State.powerOn x = State.reset

/-! ## Registers and the bus -/

/-- The pairs as views of the eight bytes (R22), the flags Z, N, H and C as bits 7, 6, 5 and 4 of F, the byte that setting
the four flags writes to F and to nothing else (R25), and the conditions (R17). That AF reads F's low nibble as zero in
every state, which no run can tell from R25, is the model's reading (log entry 13). -/
def Obligations.RegisterViews : Prop :=
  ∀ (c : Cpu) (v : Word),
    c.bc.toNat = c.b.toNat * 256 + c.c.toNat ∧ c.de.toNat = c.d.toNat * 256 + c.e.toNat ∧
    c.hl.toNat = c.h.toNat * 256 + c.l.toNat ∧
    (c.stkPair .af).toNat = c.a.toNat * 256 + (c.f &&& 0xF0#8).toNat ∧
    (∀ p, (c.setPair p v).pair p = v) ∧
    (∀ q, q ≠ .af → (c.setStkPair q v).stkPair q = v) ∧
    (c.setStkPair .af v).a = highByte v ∧ (c.setStkPair .af v).f = lowByte v &&& 0xF0#8 ∧
    c.flagZ = c.f.getLsbD 7 ∧ c.flagN = c.f.getLsbD 6 ∧ c.flagH = c.f.getLsbD 5 ∧ c.flagC = c.f.getLsbD 4 ∧
    (∀ z n h k : Bool,
      let set := c.setFlags z n h k
      set = { c with f := set.f } ∧ set.f.getLsbD 7 = z ∧ set.f.getLsbD 6 = n ∧ set.f.getLsbD 5 = h ∧
      set.f.getLsbD 4 = k ∧ set.f &&& 0x0F#8 = 0x00#8) ∧
    (c.holds .nz = true ↔ c.f.getLsbD 7 = false) ∧ (c.holds .z = true ↔ c.f.getLsbD 7 = true) ∧
    (c.holds .nc = true ↔ c.f.getLsbD 4 = false) ∧ (c.holds .c = true ↔ c.f.getLsbD 4 = true)

/-- The address partition: the decoder gives every address exactly the region of its range (R72). -/
def Obligations.RegionPartition : Prop :=
  ∀ (a : Nat) (bank : Byte), a ≤ 0xFFFF →
    (region a bank = .bootOverlay ↔ a ≤ 0x00FF ∧ bank = 0x00#8) ∧
    (region a bank = .rom0 ↔ a ≤ 0x3FFF ∧ ¬(a ≤ 0x00FF ∧ bank = 0x00#8)) ∧
    (region a bank = .rom1 ↔ 0x4000 ≤ a ∧ a ≤ 0x7FFF) ∧ (region a bank = .vram ↔ 0x8000 ≤ a ∧ a ≤ 0x9FFF) ∧
    (region a bank = .extRam ↔ 0xA000 ≤ a ∧ a ≤ 0xBFFF) ∧ (region a bank = .wram ↔ 0xC000 ≤ a ∧ a ≤ 0xDFFF) ∧
    (region a bank = .echo ↔ 0xE000 ≤ a ∧ a ≤ 0xFDFF) ∧ (region a bank = .oam ↔ 0xFE00 ≤ a ∧ a ≤ 0xFE9F) ∧
    (region a bank = .unusable ↔ 0xFEA0 ≤ a ∧ a ≤ 0xFEFF) ∧ (region a bank = .io ↔ 0xFF00 ≤ a ∧ a ≤ 0xFF7F) ∧
    (region a bank = .hram ↔ 0xFF80 ≤ a ∧ a ≤ 0xFFFE) ∧ (region a bank = .ie ↔ a = 0xFFFF)

/-- The read and write rules of the regions but the I/O file (R78 to R86, R88, R89), at the moment of the transfer, with
no cartridge, with the minimal one (R11) and with any other. What another cartridge reads as is a free value of the writes
it has taken (log entry 16). -/
def Obligations.RegionRules : Prop :=
  ∀ (cfg : Config) (latch : InputLatch) (u : Units) (addr : Word) (v : Byte),
    let a := addr.toNat
    let overlay := a ≤ 0x00FF ∧ u.bus.bank = 0x00#8
    let external := 0xA000 ≤ a ∧ a ≤ 0xBFFF
    let stored (k : Nat) : Units := { u with bus := { u.bus with mem := Memory.write u.bus.mem k v } }
    let taken : Units := { u with bus := { u.bus with cart := { addr := addr, value := v } :: u.bus.cart } }
    (overlay → ∀ m, cfg.boot = some m → busRead cfg latch u addr = Memory.read m a) ∧
    (cfg.rom = none →
      (a ≤ 0x7FFF → ¬overlay → busRead cfg latch u addr = 0xFF#8) ∧ (external → busRead cfg latch u addr = 0xFF#8) ∧
      (a ≤ 0x7FFF ∨ external → busWrite cfg addr v u = u)) ∧
    (∀ m, cfg.rom = some m → cfg.cartridge = .minimal →
      (a ≤ 0x3FFF → ¬overlay → busRead cfg latch u addr = Memory.read m a) ∧
      (0x4000 ≤ a → a ≤ 0x7FFF → busRead cfg latch u addr = Memory.read m (16384 + (a - 0x4000))) ∧
      (external → busRead cfg latch u addr = 0xFF#8) ∧ (a ≤ 0x7FFF ∨ external → busWrite cfg addr v u = u)) ∧
    (∀ m, cfg.rom = some m → cfg.cartridge = .other →
      (a ≤ 0x3FFF → ¬overlay → busRead cfg latch u addr = Config.cartRead m u.bus.cart .rom0 a) ∧
      (0x4000 ≤ a → a ≤ 0x7FFF → busRead cfg latch u addr = Config.cartRead m u.bus.cart .rom1 (a - 0x4000)) ∧
      (a ≤ 0x7FFF → busWrite cfg addr v u = taken) ∧
      (external → busRead cfg latch u addr =
          (if Config.extRamEnabled m u.bus.cart then Config.cartRead m u.bus.cart .extRam (a - 0xA000) else 0xFF#8) ∧
        busWrite cfg addr v u = (if Config.extRamEnabled m u.bus.cart then taken else u))) ∧
    (0x8000 ≤ a → a ≤ 0x9FFF →
      busRead cfg latch u addr = (if u.bus.vramBlocked then 0xFF#8 else Memory.read u.bus.mem a) ∧
      busWrite cfg addr v u = (if u.bus.vramBlocked then u else stored a)) ∧
    (0xC000 ≤ a → a ≤ 0xDFFF → busRead cfg latch u addr = Memory.read u.bus.mem a ∧
      busWrite cfg addr v u = stored a) ∧
    (0xE000 ≤ a → a ≤ 0xFDFF → busRead cfg latch u addr = Memory.read u.bus.mem (a - 0x2000) ∧
      busWrite cfg addr v u = stored (a - 0x2000)) ∧
    (0xFE00 ≤ a → a ≤ 0xFE9F →
      busRead cfg latch u addr = (if u.bus.oamBlocked then 0xFF#8 else Memory.read u.bus.mem a) ∧
      busWrite cfg addr v u = (if u.bus.oamBlocked then u else stored a)) ∧
    (0xFEA0 ≤ a → a ≤ 0xFEFF → busRead cfg latch u addr = (if u.bus.oamBlocked then 0xFF#8 else 0x00#8) ∧
      busWrite cfg addr v u = u) ∧
    (0xFF80 ≤ a → a ≤ 0xFFFE → busRead cfg latch u addr = Memory.read u.bus.mem a ∧
      busWrite cfg addr v u = stored a) ∧
    (a = 0xFFFF → busRead cfg latch u addr = u.timer.intEnable ∧
      busWrite cfg addr v u = { u with timer := { u.timer with intEnable := v } })

/-- The I/O register file (R91, R92, R387): what a read of every implemented slot returns and what a write does; an
unimplemented slot reads 0xFF and ignores writes. -/
def Obligations.IoRegisterFile : Prop :=
  ∀ (cfg : Config) (latch : InputLatch) (u : Units) (v : Byte),
    let reads (addr : Word) (r : Byte) : Prop := busRead cfg latch u addr = r
    let writes (addr : Word) (w : Units) : Prop := busWrite cfg addr v u = w
    let impl (r : IoReg) : Prop := cfg.ioImplemented.contains r = true
    let newTac : BitVec 3 := v.setWidth 3
    let restart : Prop := newTac.getLsbD 2 = true ∧
      (u.timer.tac.getLsbD 2 = false ∨ u.timer.tac.toNat % 4 ≠ newTac.toNat % 4)
    let period := if newTac.toNat % 4 = 0 then 1024 else if newTac.toNat % 4 = 1 then 16
      else if newTac.toNat % 4 = 2 then 64 else 256
    (impl .joyp → reads 0xFF00#16 (0b11#2 ++ u.bus.joypSelect ++ joypNibble latch u.bus.joypSelect) ∧
      writes 0xFF00#16 { u with bus := { u.bus with joypSelect := v.extractLsb' 4 2 } }) ∧
    (impl .div → reads 0xFF04#16 u.timer.div ∧ writes 0xFF04#16 { u with timer := { u.timer with div := 0x00#8 } }) ∧
    (impl .tima → reads 0xFF05#16 u.timer.tima ∧ writes 0xFF05#16 { u with timer := { u.timer with tima := v } }) ∧
    (impl .tma → reads 0xFF06#16 u.timer.tma ∧ writes 0xFF06#16 { u with timer := { u.timer with tma := v } }) ∧
    (impl .tac → reads 0xFF07#16 (0b11111#5 ++ u.timer.tac) ∧
      (restart → writes 0xFF07#16 { u with timer := { u.timer with
        tac := newTac, nextTIMACycle := (u.cycles + period) % 70224 } }) ∧
      (¬restart → writes 0xFF07#16 { u with timer := { u.timer with tac := newTac } })) ∧
    (impl .intFlag → reads 0xFF0F#16 (0b111#3 ++ u.timer.intFlag) ∧
      writes 0xFF0F#16 { u with timer := { u.timer with intFlag := v.setWidth 5 } }) ∧
    (impl .lcdc → reads 0xFF40#16 u.ppu.lcdc ∧ writes 0xFF40#16 { u with ppu := { u.ppu with lcdc := v } }) ∧
    (impl .stat → reads 0xFF41#16 (1#1 ++ u.ppu.statEnable ++ BitVec.ofBool (decide (u.timer.ly = u.timer.lyc)) ++
        (match u.ppu.mode with
          | .hblank => 0#2
          | .vblank => 1#2
          | .oamScan => 2#2
          | .draw => 3#2)) ∧
      writes 0xFF41#16 { u with ppu := { u.ppu with statEnable := v.extractLsb' 3 4 } }) ∧
    (impl .scy → reads 0xFF42#16 u.ppu.scy ∧ writes 0xFF42#16 { u with ppu := { u.ppu with scy := v } }) ∧
    (impl .scx → reads 0xFF43#16 u.ppu.scx ∧ writes 0xFF43#16 { u with ppu := { u.ppu with scx := v } }) ∧
    (impl .ly → reads 0xFF44#16 u.timer.ly ∧ writes 0xFF44#16 u) ∧
    (impl .lyc → reads 0xFF45#16 u.timer.lyc ∧ writes 0xFF45#16 { u with timer := { u.timer with lyc := v } }) ∧
    (impl .bgp → reads 0xFF47#16 u.ppu.bgp ∧ writes 0xFF47#16 { u with ppu := { u.ppu with bgp := v } }) ∧
    (impl .obp0 → reads 0xFF48#16 u.ppu.obp0 ∧ writes 0xFF48#16 { u with ppu := { u.ppu with obp0 := v } }) ∧
    (impl .obp1 → reads 0xFF49#16 u.ppu.obp1 ∧ writes 0xFF49#16 { u with ppu := { u.ppu with obp1 := v } }) ∧
    (impl .bank → reads 0xFF50#16 u.bus.bank ∧
      writes 0xFF50#16 (if u.bus.bank = 0x00#8 then { u with bus := { u.bus with bank := v } } else u)) ∧
    ∀ addr : Word, 0xFF00 ≤ addr.toNat → addr.toNat ≤ 0xFF7F →
      (∀ r, ioRegAt addr.toNat = some r → cfg.ioImplemented.contains r = false) →
      reads addr 0xFF#8 ∧ writes addr u

/-- A byte stored to WRAM is read back through its own address and through its echo, whichever of the two it was stored
through (R83, R84), and so is a byte stored to HRAM (R88); time passes in between. -/
def Obligations.WorkRamReadBack : Prop :=
  ∀ (s : State) (a b : Word) (v : Byte) (n : Nat), Memory.wf s.units.bus.mem = true →
    (∃ w : Word, Rule.plainRam w ∧ (a = w ∨ w.toNat ≤ 0xDDFF ∧ a = w + 0x2000#16) ∧
      (b = w ∨ w.toNat ≤ 0xDDFF ∧ b = w + 0x2000#16)) →
    ((s.writeByte a v).mapUnits (ticks n)).readByte b = v

/-- The boot overlay and BANK (R42, R106, from R72, R78, R79): the overlay is read while BANK is 0; a nonzero write to
0xFF50 removes it for ever, since no step changes a nonzero BANK. What a cartridge other than the minimal one reads as is a
free value (log entry 16). -/
def Obligations.BootOverlayRemoved : Prop :=
  (∀ (s : State) (boot rom : Memory) (v : Byte), s.cfg.boot = some boot → s.cfg.rom = some rom →
    s.cfg.ioImplemented.contains .bank = true → s.units.bus.bank = 0x00#8 →
    s.readByte 0x0050#16 = Memory.read boot 0x50 ∧ (s.writeByte 0xFF50#16 v).units.bus.bank = v ∧
    (v ≠ 0x00#8 →
      (s.cfg.cartridge = .minimal → (s.writeByte 0xFF50#16 v).readByte 0x0010#16 = Memory.read rom 0x10) ∧
      (s.cfg.cartridge = .other →
        (s.writeByte 0xFF50#16 v).readByte 0x0010#16 = Config.cartRead rom s.units.bus.cart .rom0 0x10))) ∧
  ∀ s t : State, s.units.bus.bank ≠ 0x00#8 → step s = .next t → t.units.bus.bank = s.units.bus.bank

/-! ## Interrupts, faults and power states -/

/-- The pending interrupt of highest priority is the lowest bit set in `IF & IE & 0x1F` (R349). -/
def Obligations.InterruptPriority : Prop :=
  ∀ t : Timer,
    let pending (k : Nat) : Bool := t.intFlag.getLsbD k && t.intEnable.getLsbD k
    (∀ k, nextPendingInterrupt t = some k ↔ k ≤ 4 ∧ pending k = true ∧ ∀ j < k, pending j = false) ∧
    (nextPendingInterrupt t = none ↔ ∀ k ≤ 4, pending k = false)

/-- Interrupt service (R350, R351, R352): it happens instead of a step exactly when IME is 1 and an interrupt is pending;
PC is pushed, IME and `imePending` are cleared, PC is the vector, the request is cleared, `mode` is Running, and five
machine cycles pass in their places; then the frame-end check (R471). That the step begins with the refresh of a new frame
and records that no `Step()` was made is the model's choice (log entries 5, 8 and 9). -/
def Obligations.InterruptService : Prop :=
  (∀ s : State, s.interruptTaken = (if s.cpu.ime then nextPendingInterrupt s.units.timer else none)) ∧
  ∀ (s : State) (k : Nat), s.beginFrame.interruptTaken = some k →
    let b := s.beginFrame
    let sp1 := b.cpu.sp - 1#16
    let sp2 := sp1 - 1#16
    let u1 := busWrite b.cfg sp1 (highByte b.cpu.pc) (ticks 4 (ticks 4 (ticks 4 b.units)))
    let u2 := busWrite b.cfg sp2 (lowByte b.cpu.pc) (ticks 4 u1)
    let u3 := { u2 with timer := { u2.timer with intFlag := u2.timer.intFlag &&& ~~~(1#5 <<< k) } }
    step s = .next (State.frameEnd { b with
      cpu := { b.cpu with
        sp := sp2, ime := false, imePending := false, pc := BitVec.ofNat 16 (0x0040 + 8 * k), mode := .running }
      units := ticks 4 u3
      outside := { b.outside with outcome := none } })

/-- A handler that returns at once: after the service of an interrupt with the stack in WRAM or HRAM, `RETI` completes and
brings back PC, SP and every register, with IME = 1 (R351, R300, R354). -/
def Obligations.ServiceThenReti : Prop :=
  ∀ (s : State) (k : Nat), Memory.wf s.units.bus.mem = true →
    Rule.plainRam (s.cpu.sp - 1#16) → Rule.plainRam (s.cpu.sp - 2#16) →
    ∃ t, exec .reti (s.serviceInterrupt k) = .next t ∧
      t.cpu = { s.cpu with ime := true, imePending := false, mode := .running }

/-- What is pushed is popped (R195 to R197, R296, R298, R301): with the stack in WRAM or HRAM, `PUSH rr` then `POP rr`
leaves the registers as they were, and `CALL` then `RET` returns to the instruction after the call. -/
def Obligations.StackRoundTrip : Prop :=
  ∀ s : State, Memory.wf s.units.bus.mem = true →
    Rule.plainRam (s.cpu.sp - 1#16) → Rule.plainRam (s.cpu.sp - 2#16) → s.cpu.f &&& 0x0F#8 = 0#8 →
    (∀ rr : StkPair, ∃ t u, exec (Form.push rr).instr s = .next t ∧ exec (Form.pop rr).instr t = .next u ∧
      u.cpu = s.cpu) ∧
    (∀ addr : Word, ∃ t u, exec (.call_a16 addr) s = .next t ∧ t.cpu.pc = addr ∧ exec .ret t = .next u ∧ u.cpu = s.cpu)

/-- Halted and Stopped (R325, R326): without a wake condition a step is one idle machine cycle with outcome Halted and
nothing fetched; with one, it is the step of the same processor Running. The refresh that may begin the step and the field
that records the outcome are the model's (log entries 5, 8 and 9). -/
def Obligations.HaltedAndStopped : Prop :=
  ∀ s : State, s.beginFrame.interruptTaken = none →
    let b := s.beginFrame
    let pressed := b.outside.latch.up ∨ b.outside.latch.down ∨ b.outside.latch.left ∨ b.outside.latch.right ∨
      b.outside.latch.a ∨ b.outside.latch.b ∨ b.outside.latch.start ∨ b.outside.latch.select
    let pending := b.units.timer.intFlag &&& b.units.timer.intEnable.setWidth 5 ≠ 0#5
    let running : State := { b with cpu := { b.cpu with mode := .running } }
    let idles : Prop := step s = .next (State.frameEnd { b with
      units := ticks 4 b.units, outside := { b.outside with outcome := some .halted } })
    (b.cpu.mode = .halted → (¬pending → idles) ∧ (pending → b.cpuStep = running.cpuStep)) ∧
    (b.cpu.mode = .stopped → (¬pressed → idles) ∧ (pressed → b.cpuStep = running.cpuStep))

/-- `EI` (R328): `ei`. With `EI_DELAY` = 1 it sets `imePending` alone, so no interrupt is taken before the next
instruction; the step that starts with `imePending` set gives IME when it ends, if it is still set and the step did not
end in an undefined opcode (R321). With `EI_DELAY` = 0 it sets IME. The refresh that may begin a step and the field that
records its outcome are the model's (log entries 5, 8 and 9). -/
def Obligations.EiDelay : Prop :=
  encode .ei = [0xFB#8] ∧
  (∀ s : State, exec .ei s = .next (if s.cfg.eiDelay then { s with cpu := { s.cpu with imePending := true } }
    else { s with cpu := { s.cpu with ime := true } })) ∧
  (∀ s t : State, s.cfg.eiDelay = true → s.cpu.ime = false → s.beginFrame.interruptTaken = none →
    s.beginFrame.asleep = false → s.beginFrame.awake.fetchForm.1 = .ei → s.cpu.imePending = false → step s = .next t →
    t.cpu.ime = false ∧ t.cpu.imePending = true ∧ t.beginFrame.interruptTaken = none) ∧
  (∀ s : State, s.eiMatures = (s.cfg.eiDelay && s.cpu.imePending)) ∧
  (∀ (p : Bool) (t : State), (∀ code, t.outside.outcome ≠ some (.unknownOpcode code)) →
    (t.finishStep p).cpu = (if p = true ∧ t.cpu.imePending = true then { t.cpu with ime := true, imePending := false }
      else t.cpu)) ∧
  ∀ (p : Bool) (t : State) (code : Byte), t.outside.outcome = some (.unknownOpcode code) → (t.finishStep p).cpu = t.cpu

/-- The fault hook (R474): it is consulted after a step that ended in an undefined opcode; Abort ends `RunFrame` with
`frameDone` as it is, Resume goes on to the frame-end check. That the answer is the next one the host has queued, and the
free value `Config.onUnknownOpcode` of a counter with none queued, and the fields that record the call and its end, are the
model's choice (log entries 6, 7, 8 and 9). -/
def Obligations.FaultHook : Prop :=
  ∀ (s : State) (code : Byte), s.outside.outcome = some (.unknownOpcode code) →
    (∀ (answer : HookAnswer) (rest : List HookAnswer), s.outside.hookQueue = answer :: rest →
      (answer = .abort → s.afterStep = { s with outside := { s.outside with
        hookQueue := rest, inFrame := false, frameOutcome := some .abortedByHost } }) ∧
      (answer = .resume → s.afterStep = State.frameEnd { s with outside := { s.outside with hookQueue := rest } })) ∧
    (s.outside.hookQueue = [] →
      let calls := s.outside.hookCalls
      (Config.onUnknownOpcode calls code = .abort → s.afterStep = { s with outside := { s.outside with
        hookCalls := calls + 1, inFrame := false, frameOutcome := some .abortedByHost } }) ∧
      (Config.onUnknownOpcode calls code = .resume →
        s.afterStep = State.frameEnd { s with outside := { s.outside with hookCalls := calls + 1 } }))

/-- The frame's end. A step that completes a frame leaves `frameDone` clear and the counter a multiple of 4, an excess of
0, 4, 8, 12, 16 or 20 cycles when it wrapped the counter itself (R472, R473). One that wraps the counter, or that finds
`frameDone` left set by an abort, completes the frame, or ends in an abort that leaves `frameDone` set; only a step that
ended in an undefined opcode can abort (R474). The field that records what `RunFrame` returned is the model's (log entry
9). -/
def Obligations.FrameEnd : Prop :=
  ∀ s t : State, s.Inv → step s = .next t →
    let returned := t.outside.frameOutcome
    (returned = some .completed → t.units.frameDone = false ∧ t.units.cycles % 4 = 0 ∧
      (s.units.frameDone = false → t.units.cycles ≤ 20 ∧ t.units.cycles < s.units.cycles)) ∧
    (s.units.frameDone = true ∨ t.units.cycles < s.units.cycles →
      returned = some .completed ∨ returned = some .abortedByHost ∧ t.units.frameDone = true) ∧
    (returned = some .abortedByHost → ∃ code, t.outside.outcome = some (.unknownOpcode code))

/-- The joypad register and its interrupt (R366, R367): a line is low exactly when a pressed button's group is selected, and
a refresh requests interrupt 4 exactly when some line falls. -/
def Obligations.JoypadLines : Prop :=
  (∀ (l : InputLatch) (sel : BitVec 2),
    let low (i : Nat) : Prop := (joypNibble l sel).getLsbD i = false
    (low 0 ↔ sel.getLsbD 0 = false ∧ l.right ∨ sel.getLsbD 1 = false ∧ l.a) ∧
    (low 1 ↔ sel.getLsbD 0 = false ∧ l.left ∨ sel.getLsbD 1 = false ∧ l.b) ∧
    (low 2 ↔ sel.getLsbD 0 = false ∧ l.up ∨ sel.getLsbD 1 = false ∧ l.select) ∧
    (low 3 ↔ sel.getLsbD 0 = false ∧ l.down ∨ sel.getLsbD 1 = false ∧ l.start)) ∧
  ∀ (s : State) (new : InputLatch),
    let before := joypNibble s.outside.latch s.units.bus.joypSelect
    let after := joypNibble new s.units.bus.joypSelect
    let refreshed : State := { s with outside := { s.outside with latch := new } }
    ((∃ i < 4, before.getLsbD i = true ∧ after.getLsbD i = false) → s.refreshLatch new = { refreshed with
      units := { s.units with timer := { s.units.timer with intFlag := s.units.timer.intFlag ||| 0b10000#5 } } }) ∧
    ((∀ i < 4, before.getLsbD i = true → after.getLsbD i = true) → s.refreshLatch new = refreshed)

/-! ## The units -/

/-- DIV counts every 256 ticks, for ever, whatever else the units do (R383): with its target `d` ticks ahead, `n` ticks
add one on the `d`-th and on every 256th after it, and so any sixteen frames add 4389 (R386). -/
def Obligations.DivCadence : Prop :=
  ∀ (u : Units) (d : Nat), u.cycles < 70224 → 1 ≤ d → d ≤ 256 → u.timer.nextDIVCycle = (u.cycles + d) % 70224 →
    (∀ n : Nat, (ticks n u).timer.div = u.timer.div + BitVec.ofNat 8 ((n + 256 - d) / 256)) ∧
    (ticks (16 * 70224) u).timer.div = u.timer.div + BitVec.ofNat 8 4389

/-- TIMA of an enabled timer (R385): it holds for one tick less than its period, then counts, or on overflow takes TMA and
requests interrupt 2 in the same tick, and the next target is a full period away. While the timer is disabled TIMA and its
target hold and interrupt 2 is not requested, however many ticks pass (R388). -/
def Obligations.TimaCadence : Prop :=
  (∀ (u : Units) (p : Nat), u.cycles < 70224 → u.timer.tac.getLsbD 2 = true →
    (u.timer.tac.toNat % 4 = 0 ∧ p = 1024 ∨ u.timer.tac.toNat % 4 = 1 ∧ p = 16 ∨
      u.timer.tac.toNat % 4 = 2 ∧ p = 64 ∨ u.timer.tac.toNat % 4 = 3 ∧ p = 256) →
    u.timer.nextTIMACycle = (u.cycles + p) % 70224 →
    (∀ j < p, (ticks j u).timer.tima = u.timer.tima) ∧
    (u.timer.tima ≠ 0xFF#8 → (ticks p u).timer.tima = u.timer.tima + 1#8) ∧
    (u.timer.tima = 0xFF#8 → (ticks p u).timer.tima = u.timer.tma ∧ (ticks p u).timer.intFlag.getLsbD 2 = true) ∧
    (ticks p u).timer.nextTIMACycle = ((ticks p u).cycles + p) % 70224) ∧
  ∀ (u : Units) (n : Nat), u.timer.tac.getLsbD 2 = false →
    (ticks n u).timer.tima = u.timer.tima ∧ (ticks n u).timer.nextTIMACycle = u.timer.nextTIMACycle ∧
    (ticks n u).timer.intFlag.getLsbD 2 = u.timer.intFlag.getLsbD 2

/-- LY is the scanline of the counter after any number of ticks, and so takes 0 to 153 in order, each for 456 ticks
(R389). -/
def Obligations.LyTimeline : Prop :=
  ∀ (u : Units) (n : Nat), u.Inv →
    (ticks n u).timer.ly.toNat = (u.cycles + n) % 70224 / 456 ∧ (ticks n u).timer.ly.toNat ≤ 153

/-- The events of a line. At its start (R390, R415, R417, R437): the LY = LYC request, Mode 2 with its request on the
visible lines, and the VBlank request, the ready mark and the Mode 1 request at line 144. At dot 80 of a visible line
(R414, R420, R50): Mode 3, both regions blocked, the scan made, the fetcher and the FIFOs started afresh, the first dot of
the fetcher taken, and no request. When `lcdX` has reached 160 (R414, R416, R437): Mode 0, both regions free, no pixel, and
its request. That the fetcher's latches `tileNo`, `tileLo` and `tileHi` are cleared at dot 80 is the model's reading of R50,
since R420's list does not name them (log entry 24). -/
def Obligations.LineEvents : Prop :=
  ∀ u : Units, u.Inv →
    let line := (u.cycles + 1) % 70224 / 456
    let dot := (u.cycles + 1) % 456
    let v := tick u
    (dot = 0 →
      (u.timer.lyc.toNat = line → u.ppu.statEnable.getLsbD 3 = true → v.timer.intFlag.getLsbD 1 = true) ∧
      (line < 144 → v.ppu.mode = .oamScan ∧ v.bus.oamBlocked = true ∧ v.bus.vramBlocked = false ∧
        (u.ppu.statEnable.getLsbD 2 = true → v.timer.intFlag.getLsbD 1 = true)) ∧
      (line = 144 → v.ppu.mode = .vblank ∧ v.bus.oamBlocked = false ∧ v.bus.vramBlocked = false ∧
        v.ppu.frameReady = true ∧ v.timer.intFlag.getLsbD 0 = true ∧
        (u.ppu.statEnable.getLsbD 1 = true → v.timer.intFlag.getLsbD 1 = true))) ∧
    (dot = 80 → line < 144 →
      v.bus.oamBlocked = true ∧ v.bus.vramBlocked = true ∧
      v.timer.intFlag.getLsbD 1 = u.timer.intFlag.getLsbD 1 ∧
      v.ppu = { u.ppu with
        mode := .draw, scan := scanOam u, bgFifo := [], spriteFifo := [], fetchX := 0, fetchStep := .getTile
        fetchDot := true, fetchDummy := true, tileNo := 0x00#8, tileLo := 0x00#8, tileHi := 0x00#8, lcdX := 0
        discard := u.ppu.scx.toNat % 8, stall := 0, pendingSprite := none
        blankFrame := u.ppu.blankFrame || !(u.ppu.lcdc.getLsbD 7) }) ∧
    (dot ≠ 0 → u.ppu.mode = .draw → u.ppu.lcdX = 160 →
      v.ppu.mode = .hblank ∧ v.bus.oamBlocked = false ∧ v.bus.vramBlocked = false ∧ v.ppu.lcd = u.ppu.lcd ∧
      (u.ppu.statEnable.getLsbD 0 = true → v.timer.intFlag.getLsbD 1 = true) ∧
      (u.ppu.statEnable.getLsbD 0 = false → v.timer.intFlag.getLsbD 1 = u.timer.intFlag.getLsbD 1))

/-- The OAM scan keeps the first ten entries, in OAM order, whose lines include LY (R418). -/
def Obligations.ScanFirstTen : Prop :=
  ∀ (u : Units) (i : Nat),
    let h := if u.ppu.lcdc.getLsbD 2 then 16 else 8
    let selects (i : Nat) : Bool :=
      decide (u.timer.ly.toNat + 16 ≥ (Memory.read u.bus.mem (0xFE00 + 4 * i)).toNat) &&
      decide (u.timer.ly.toNat + 16 < (Memory.read u.bus.mem (0xFE00 + 4 * i)).toNat + h)
    ((∃ e ∈ scanOam u, e.index = i) ↔
      i < 40 ∧ selects i = true ∧ ((List.range i).filter selects).length < 10) ∧
    (scanOam u).Pairwise (fun e e' => e.index < e'.index) ∧ (∀ e ∈ scanOam u, e.fetched = false)

/-- The mixing rule and the pixel output (R431, R432). -/
def Obligations.PixelOutput : Prop :=
  ∀ (u : Units) (bg : FifoEntry) (rest : List FifoEntry), u.ppu.bgFifo = bg :: rest →
    let wins (sp : FifoEntry) : Prop :=
      sp.colorIndex ≠ 0#2 ∧ ¬(bg.priorityBit = true ∧ sp.priorityBit = true)
    let cell := 160 * u.timer.ly.toNat + u.ppu.lcdX
    let v := outputPixel u
    let bgShade := (u.ppu.bgp.toNat / 2 ^ (2 * bg.colorIndex.toNat)) % 4
    let spShade (sp : FifoEntry) := ((if sp.paletteBit then u.ppu.obp1 else u.ppu.obp0).toNat /
      2 ^ (2 * sp.colorIndex.toNat)) % 4
    v.ppu.bgFifo = rest ∧ v.ppu.spriteFifo = u.ppu.spriteFifo.tail ∧ v.ppu.lcdX = u.ppu.lcdX + 1 ∧
    (u.ppu.blankFrame = true → v.ppu.lcd = u.ppu.lcd) ∧
    (u.ppu.blankFrame = false → Sparse.wf 0#2 u.ppu.lcd = true →
      (∀ k, k ≠ cell → Sparse.read 0#2 v.ppu.lcd k = Sparse.read 0#2 u.ppu.lcd k) ∧
      (u.ppu.spriteFifo = [] → (Sparse.read 0#2 v.ppu.lcd cell).toNat = bgShade) ∧
      ∀ sp sps, u.ppu.spriteFifo = sp :: sps →
        (wins sp → (Sparse.read 0#2 v.ppu.lcd cell).toNat = spShade sp) ∧
        (¬wins sp → (Sparse.read 0#2 v.ppu.lcd cell).toNat = bgShade))

/-- `DAA` after `ADD` or `ADC` of two packed decimal bytes gives the packed decimal sum and its decimal carry (R241,
R245). -/
def Obligations.DecimalAddition : Prop :=
  ∀ (x y : Nat) (cin : Bool), x < 100 → y < 100 →
    let bcd (n : Nat) : Byte := BitVec.ofNat 8 (16 * (n / 10 % 10) + n % 10)
    let sum := x + y + (if cin then 1 else 0)
    let r := add8 (bcd x) (bcd y) cin
    (daa8 r.value r.n r.h r.c).value = bcd (sum % 100) ∧ ((daa8 r.value r.n r.h r.c).c = true ↔ 100 ≤ sum)
end

