-- ==== Sys2Proof/Laws/State.lean ====
section
/-! SUPPORT. One lemma per part of State per update, each true by definition, so that no proof unfolds a record
update; and the accessors of the register file. -/

namespace Sys2Proof.Machine

/-! ## Byte order -/

theorem hiLo_toNat (hi lo : Byte) : (hiLo hi lo).toNat = hi.toNat * 256 + lo.toNat := by
  have h := lo.isLt
  show (hi ++ lo).toNat = _
  rw [BitVec.toNat_append, ← Nat.shiftLeft_add_eq_or_of_lt (by simpa using h), Nat.shiftLeft_eq]

theorem highByte_toNat (w : Word) : (highByte w).toNat = w.toNat / 256 := by
  have h := w.isLt
  simp only [highByte, BitVec.extractLsb'_toNat, Nat.shiftRight_eq_div_pow]; omega

theorem lowByte_toNat (w : Word) : (lowByte w).toNat = w.toNat % 256 := by
  simp only [lowByte, BitVec.extractLsb'_toNat, Nat.shiftRight_eq_div_pow]; omega

@[simp] theorem highByte_hiLo (hi lo : Byte) : highByte (hiLo hi lo) = hi := by
  apply BitVec.eq_of_toNat_eq; rw [highByte_toNat, hiLo_toNat]; have := lo.isLt; omega

@[simp] theorem lowByte_hiLo (hi lo : Byte) : lowByte (hiLo hi lo) = lo := by
  apply BitVec.eq_of_toNat_eq; rw [lowByte_toNat, hiLo_toNat]; have := lo.isLt; omega

@[simp] theorem hiLo_bytes (w : Word) : hiLo (highByte w) (lowByte w) = w := by
  apply BitVec.eq_of_toNat_eq; rw [hiLo_toNat, highByte_toNat, lowByte_toNat]; omega

/-! ## The parts of State under each operation -/

section Parts
variable (s : State) (g : Cpu → Cpu) (k : Units → Units) (a : Word) (v : Byte) (o : Option StepOutcome)
  (r : FrameOutcome)

@[simp] theorem State.mapCpu_cpu : (s.mapCpu g).cpu = g s.cpu := rfl
@[simp] theorem State.mapCpu_units : (s.mapCpu g).units = s.units := rfl
@[simp] theorem State.mapCpu_outside : (s.mapCpu g).outside = s.outside := rfl
@[simp] theorem State.mapCpu_cfg : (s.mapCpu g).cfg = s.cfg := rfl

@[simp] theorem State.mapUnits_cpu : (s.mapUnits k).cpu = s.cpu := rfl
@[simp] theorem State.mapUnits_units : (s.mapUnits k).units = k s.units := rfl
@[simp] theorem State.mapUnits_outside : (s.mapUnits k).outside = s.outside := rfl
@[simp] theorem State.mapUnits_cfg : (s.mapUnits k).cfg = s.cfg := rfl

@[simp] theorem State.idle_cpu : s.idle.cpu = s.cpu := rfl
@[simp] theorem State.idle_units : s.idle.units = ticks 4 s.units := rfl
@[simp] theorem State.idle_outside : s.idle.outside = s.outside := rfl
@[simp] theorem State.idle_cfg : s.idle.cfg = s.cfg := rfl

@[simp] theorem State.writeByte_cpu : (s.writeByte a v).cpu = s.cpu := rfl
@[simp] theorem State.writeByte_units : (s.writeByte a v).units = busWrite s.cfg a v (ticks 4 s.units) := rfl
@[simp] theorem State.writeByte_outside : (s.writeByte a v).outside = s.outside := rfl
@[simp] theorem State.writeByte_cfg : (s.writeByte a v).cfg = s.cfg := rfl

@[simp] theorem State.fetched_cpu : s.fetched.cpu = { s.cpu with pc := s.cpu.pc + 1#16 } := rfl
@[simp] theorem State.fetched_units : s.fetched.units = ticks 4 s.units := rfl
@[simp] theorem State.fetched_outside : s.fetched.outside = s.outside := rfl
@[simp] theorem State.fetched_cfg : s.fetched.cfg = s.cfg := rfl

@[simp] theorem State.pushByte_cpu : (s.pushByte v).cpu = { s.cpu with sp := s.cpu.sp - 1#16 } := rfl
@[simp] theorem State.pushByte_units :
    (s.pushByte v).units = busWrite s.cfg (s.cpu.sp - 1#16) v (ticks 4 s.units) := rfl
@[simp] theorem State.pushByte_outside : (s.pushByte v).outside = s.outside := rfl
@[simp] theorem State.pushByte_cfg : (s.pushByte v).cfg = s.cfg := rfl

@[simp] theorem State.push16_cpu : (s.push16 a).cpu = { s.cpu with sp := s.cpu.sp - 2#16 } := by
  have e : s.cpu.sp - 1#16 - 1#16 = s.cpu.sp - 2#16 := by bv_omega
  rw [← e]
  rfl
@[simp] theorem State.push16_units :
    (s.push16 a).units = busWrite s.cfg (s.cpu.sp - 1#16 - 1#16) (lowByte a)
      (ticks 4 (busWrite s.cfg (s.cpu.sp - 1#16) (highByte a) (ticks 4 s.units))) := rfl
@[simp] theorem State.push16_outside : (s.push16 a).outside = s.outside := rfl
@[simp] theorem State.push16_cfg : (s.push16 a).cfg = s.cfg := rfl

@[simp] theorem State.popped_cpu : s.popped.cpu = { s.cpu with sp := s.cpu.sp + 1#16 } := rfl
@[simp] theorem State.popped_units : s.popped.units = ticks 4 s.units := rfl
@[simp] theorem State.popped_outside : s.popped.outside = s.outside := rfl
@[simp] theorem State.popped_cfg : s.popped.cfg = s.cfg := rfl

@[simp] theorem State.pop16_cpu : s.pop16.cpu = { s.cpu with sp := s.cpu.sp + 2#16 } := by
  have e : s.cpu.sp + 1#16 + 1#16 = s.cpu.sp + 2#16 := by bv_omega
  rw [← e]
  rfl
@[simp] theorem State.pop16_units : s.pop16.units = ticks 4 (ticks 4 s.units) := rfl
@[simp] theorem State.pop16_outside : s.pop16.outside = s.outside := rfl
@[simp] theorem State.pop16_cfg : s.pop16.cfg = s.cfg := rfl

@[simp] theorem State.jump_cpu : (s.jump a).cpu = { s.cpu with pc := a } := rfl
@[simp] theorem State.jump_units : (s.jump a).units = s.units := rfl
@[simp] theorem State.jump_outside : (s.jump a).outside = s.outside := rfl
@[simp] theorem State.jump_cfg : (s.jump a).cfg = s.cfg := rfl

@[simp] theorem State.report_cpu : (s.report o).cpu = s.cpu := rfl
@[simp] theorem State.report_units : (s.report o).units = s.units := rfl
@[simp] theorem State.report_outcome : (s.report o).outside.outcome = o := rfl
@[simp] theorem State.report_frameOutcome : (s.report o).outside.frameOutcome = s.outside.frameOutcome := rfl
@[simp] theorem State.report_cfg : (s.report o).cfg = s.cfg := rfl

@[simp] theorem State.endFrame_cpu : (s.endFrame r).cpu = s.cpu := rfl
@[simp] theorem State.endFrame_units : (s.endFrame r).units = s.units := rfl
@[simp] theorem State.endFrame_frameOutcome : (s.endFrame r).outside.frameOutcome = some r := rfl
@[simp] theorem State.endFrame_cfg : (s.endFrame r).cfg = s.cfg := rfl

@[simp] theorem State.awake_cpu : s.awake.cpu = { s.cpu with mode := .running } := rfl
@[simp] theorem State.awake_units : s.awake.units = s.units := rfl
@[simp] theorem State.awake_outcome : s.awake.outside.outcome = none := rfl
@[simp] theorem State.awake_cfg : s.awake.cfg = s.cfg := rfl

end Parts

/-! ## The register file -/

section Registers
variable (c : Cpu) (r : Reg8) (p : Pair) (q : StkPair) (v : Byte) (w : Word) (x : Res8)

@[simp] theorem Cpu.setReg_f : (c.setReg r v).f = c.f := by cases r <;> rfl
@[simp] theorem Cpu.setReg_sp : (c.setReg r v).sp = c.sp := by cases r <;> rfl
@[simp] theorem Cpu.setReg_pc : (c.setReg r v).pc = c.pc := by cases r <;> rfl
@[simp] theorem Cpu.setReg_ime : (c.setReg r v).ime = c.ime := by cases r <;> rfl
@[simp] theorem Cpu.setReg_imePending : (c.setReg r v).imePending = c.imePending := by cases r <;> rfl
@[simp] theorem Cpu.setReg_mode : (c.setReg r v).mode = c.mode := by cases r <;> rfl
@[simp] theorem Cpu.setReg_reg : (c.setReg r v).reg r = v := by cases r <;> rfl

theorem Cpu.setReg_reg_other {r r' : Reg8} (h : r' ≠ r) : (c.setReg r v).reg r' = c.reg r' := by
  cases r <;> cases r' <;> first | rfl | exact absurd rfl h

@[simp] theorem Cpu.setHL_hl : (c.setHL w).hl = w :=
  hiLo_bytes w
@[simp] theorem Cpu.setHL_f : (c.setHL w).f = c.f := rfl
@[simp] theorem Cpu.setHL_sp : (c.setHL w).sp = c.sp := rfl
@[simp] theorem Cpu.setHL_pc : (c.setHL w).pc = c.pc := rfl
@[simp] theorem Cpu.setHL_ime : (c.setHL w).ime = c.ime := rfl
@[simp] theorem Cpu.setHL_imePending : (c.setHL w).imePending = c.imePending := rfl
@[simp] theorem Cpu.setHL_mode : (c.setHL w).mode = c.mode := rfl

@[simp] theorem Cpu.setPair_f : (c.setPair p w).f = c.f := by cases p <;> rfl
@[simp] theorem Cpu.setPair_pc : (c.setPair p w).pc = c.pc := by cases p <;> rfl
@[simp] theorem Cpu.setPair_ime : (c.setPair p w).ime = c.ime := by cases p <;> rfl
@[simp] theorem Cpu.setPair_imePending : (c.setPair p w).imePending = c.imePending := by cases p <;> rfl
@[simp] theorem Cpu.setPair_mode : (c.setPair p w).mode = c.mode := by cases p <;> rfl

@[simp] theorem Cpu.setStkPair_sp : (c.setStkPair q w).sp = c.sp := by cases q <;> rfl
@[simp] theorem Cpu.setStkPair_pc : (c.setStkPair q w).pc = c.pc := by cases q <;> rfl
@[simp] theorem Cpu.setStkPair_ime : (c.setStkPair q w).ime = c.ime := by cases q <;> rfl
@[simp] theorem Cpu.setStkPair_imePending : (c.setStkPair q w).imePending = c.imePending := by cases q <;> rfl
@[simp] theorem Cpu.setStkPair_mode : (c.setStkPair q w).mode = c.mode := by cases q <;> rfl

/-- The four flags of F (R25). -/
theorem packFlags_bits : ∀ z n h k : Bool, (packFlags z n h k).getLsbD 7 = z ∧ (packFlags z n h k).getLsbD 6 = n ∧
    (packFlags z n h k).getLsbD 5 = h ∧ (packFlags z n h k).getLsbD 4 = k := by decide

variable (z n h k : Bool)

@[simp] theorem Cpu.setFlags_f : (c.setFlags z n h k).f = packFlags z n h k := rfl
@[simp] theorem Cpu.setFlags_reg : (c.setFlags z n h k).reg r = c.reg r := by cases r <;> rfl
@[simp] theorem Cpu.setFlags_sp : (c.setFlags z n h k).sp = c.sp := rfl
@[simp] theorem Cpu.setFlags_pc : (c.setFlags z n h k).pc = c.pc := rfl
@[simp] theorem Cpu.setFlags_ime : (c.setFlags z n h k).ime = c.ime := rfl
@[simp] theorem Cpu.setFlags_imePending : (c.setFlags z n h k).imePending = c.imePending := rfl
@[simp] theorem Cpu.setFlags_mode : (c.setFlags z n h k).mode = c.mode := rfl
@[simp] theorem Cpu.setFlags_flagZ : (c.setFlags z n h k).flagZ = z :=
  (packFlags_bits z n h k).1
@[simp] theorem Cpu.setFlags_flagN : (c.setFlags z n h k).flagN = n :=
  (packFlags_bits z n h k).2.1
@[simp] theorem Cpu.setFlags_flagH : (c.setFlags z n h k).flagH = h :=
  (packFlags_bits z n h k).2.2.1
@[simp] theorem Cpu.setFlags_flagC : (c.setFlags z n h k).flagC = k :=
  (packFlags_bits z n h k).2.2.2

/-- F's low nibble is zero after any write of flags (R25). -/
@[simp] theorem packFlags_low : packFlags z n h k &&& 0x0F#8 = 0#8 := by
  cases z <;> cases n <;> cases h <;> cases k <;> rfl

/-- F's low nibble is zero after a masked write (R25). -/
@[simp] theorem maskFlags_low : maskFlags v &&& 0x0F#8 = 0#8 := by
  simp only [maskFlags, BitVec.and_assoc]; simp

/-- A write that obeys the mask already is left alone. -/
theorem maskFlags_of_low {v : Byte} (h : v &&& 0x0F#8 = 0#8) : maskFlags v = v := by
  have : ∀ v : Byte, v &&& 0x0F#8 = 0#8 → maskFlags v = v := by decide
  exact this v h

end Registers

end Sys2Proof.Machine
end

