-- ==== Sys2Proof/Laws/Sparse.lean ====
section
/-! SUPPORT. The laws of sparse data: a read after a write, and that a write keeps the canonical form. -/

namespace Sys2Proof.Machine

section
variable {α : Type} [DecidableEq α] (d : α)

/-- Below the first key of a well-formed list everything reads the default. -/
theorem Sparse.read_below {lo a : Nat} {m : List (Nat × α)} (h : Sparse.wfFrom d lo m = true) (ha : a < lo) :
    Sparse.read d m a = d := by
  induction m generalizing lo with
  | nil => rfl
  | cons x rest ih =>
    simp only [Sparse.wfFrom, Bool.and_eq_true, decide_eq_true_eq] at h
    simp only [Sparse.read, if_neg (by omega : ¬ a = x.1)]
    exact ih h.2 (by omega)

/-- A well-formed list from `lo` on is well formed from any lower key on. -/
theorem Sparse.wfFrom_mono {lo lo' : Nat} {m : List (Nat × α)} (h : Sparse.wfFrom d lo m = true) (hl : lo' ≤ lo) :
    Sparse.wfFrom d lo' m = true := by
  cases m with
  | nil => rfl
  | cons x rest =>
    simp only [Sparse.wfFrom, Bool.and_eq_true, decide_eq_true_eq] at h ⊢
    exact ⟨⟨by omega, h.1.2⟩, h.2⟩

/-- A write keeps the canonical form. -/
theorem Sparse.wfFrom_write {lo a : Nat} {m : List (Nat × α)} (v : α) (h : Sparse.wfFrom d lo m = true)
    (ha : lo ≤ a) : Sparse.wfFrom d lo (Sparse.write d m a v) = true := by
  induction m generalizing lo with
  | nil =>
    unfold Sparse.write
    split <;> simp_all [Sparse.wfFrom]
  | cons x rest ih =>
    obtain ⟨k, w⟩ := x
    have h0 := h
    simp only [Sparse.wfFrom, Bool.and_eq_true, decide_eq_true_eq] at h
    unfold Sparse.write
    by_cases h1 : a < k
    · rw [if_pos h1]
      by_cases h2 : v = d
      · rw [if_pos h2]; exact h0
      · rw [if_neg h2]
        simp only [Sparse.wfFrom, Bool.and_eq_true, decide_eq_true_eq]
        exact ⟨⟨ha, h2⟩, ⟨⟨by omega, h.1.2⟩, h.2⟩⟩
    · rw [if_neg h1]
      by_cases h2 : a = k
      · rw [if_pos h2]
        by_cases h3 : v = d
        · rw [if_pos h3]; exact Sparse.wfFrom_mono d h.2 (by omega)
        · rw [if_neg h3]
          simp only [Sparse.wfFrom, Bool.and_eq_true, decide_eq_true_eq]
          exact ⟨⟨ha, h3⟩, h2 ▸ h.2⟩
      · rw [if_neg h2]
        simp only [Sparse.wfFrom, Bool.and_eq_true, decide_eq_true_eq]
        exact ⟨h.1, ih h.2 (by omega)⟩

/-- A read of the key just written gives the value written. -/
theorem Sparse.read_write_same {lo a : Nat} {m : List (Nat × α)} (v : α) (h : Sparse.wfFrom d lo m = true) :
    Sparse.read d (Sparse.write d m a v) a = v := by
  induction m generalizing lo with
  | nil =>
    unfold Sparse.write
    split <;> simp_all [Sparse.read]
  | cons x rest ih =>
    obtain ⟨k, w⟩ := x
    simp only [Sparse.wfFrom, Bool.and_eq_true, decide_eq_true_eq] at h
    unfold Sparse.write
    by_cases h1 : a < k
    · rw [if_pos h1]
      by_cases h2 : v = d
      · rw [if_pos h2, h2]
        simp only [Sparse.read, if_neg (by omega : ¬ a = k)]
        exact Sparse.read_below d h.2 (by omega)
      · rw [if_neg h2]; simp [Sparse.read]
    · rw [if_neg h1]
      by_cases h2 : a = k
      · rw [if_pos h2]
        by_cases h3 : v = d
        · rw [if_pos h3, h3]; exact Sparse.read_below d h.2 (by omega)
        · rw [if_neg h3]; simp [Sparse.read]
      · rw [if_neg h2]
        simp only [Sparse.read, if_neg h2]
        exact ih h.2

/-- A write leaves every other key alone. -/
theorem Sparse.read_write_other {a b : Nat} (m : List (Nat × α)) (v : α) (h : b ≠ a) :
    Sparse.read d (Sparse.write d m a v) b = Sparse.read d m b := by
  induction m with
  | nil =>
    unfold Sparse.write
    split <;> simp [Sparse.read, h]
  | cons x rest ih =>
    obtain ⟨k, w⟩ := x
    unfold Sparse.write
    split
    · split <;> simp [Sparse.read, h]
    · split
      · rename_i hk
        split <;> simp [Sparse.read, ← hk, h]
      · simp [Sparse.read, ih]

/-- A property of keys that holds of every entry and of the key written holds of every entry after. -/
theorem Sparse.forall_write {p : Nat → Prop} {a : Nat} {m : List (Nat × α)} (v : α) (h : ∀ x ∈ m, p x.1) (ha : p a) :
    ∀ x ∈ Sparse.write d m a v, p x.1 := by
  induction m with
  | nil =>
    unfold Sparse.write
    split <;> simp [ha]
  | cons y rest ih =>
    obtain ⟨k, w⟩ := y
    simp only [List.forall_mem_cons] at h
    unfold Sparse.write
    split
    · split
      · exact List.forall_mem_cons.2 h
      · exact List.forall_mem_cons.2 ⟨ha, List.forall_mem_cons.2 h⟩
    · split
      · split
        · exact h.2
        · exact List.forall_mem_cons.2 ⟨ha, h.2⟩
      · simp only [List.forall_mem_cons]
        exact ⟨h.1, ih h.2⟩

end

/-! ## The byte memories -/

theorem Memory.wf_write {m : Memory} (a : Nat) (v : Byte) (h : Memory.wf m = true) :
    Memory.wf (Memory.write m a v) = true := Sparse.wfFrom_write 0x00#8 v h (Nat.zero_le a)

theorem Memory.read_write_same {m : Memory} (a : Nat) (v : Byte) (h : Memory.wf m = true) :
    Memory.read (Memory.write m a v) a = v := Sparse.read_write_same 0x00#8 v h

theorem Memory.read_write_other {a b : Nat} (m : Memory) (v : Byte) (h : b ≠ a) :
    Memory.read (Memory.write m a v) b = Memory.read m b := Sparse.read_write_other 0x00#8 m v h

theorem Memory.inRam_write {m : Memory} {a : Nat} (v : Byte) (h : Memory.inRam m = true)
    (ha : ramKey a = some a) : Memory.inRam (Memory.write m a v) = true := by
  simp only [Memory.inRam, List.all_eq_true, decide_eq_true_eq] at h ⊢
  exact Sparse.forall_write (p := fun k => ramKey k = some k) 0x00#8 v h ha

/-- The key an address reaches lies in an internal memory. -/
theorem ramKey_idem {a k : Nat} (h : ramKey a = some k) : ramKey k = some k := by
  unfold ramKey at h
  repeat' split at h
  all_goals first
    | (simp only [reduceCtorEq] at h)
    | (simp only [Option.some.injEq] at h
       subst h
       unfold ramKey
       repeat' split
       all_goals first
         | omega
         | rfl)

theorem Memory.wf_ofBytesFrom (k : Nat) (bs : List Byte) :
    Sparse.wfFrom 0x00#8 k (Memory.ofBytesFrom k bs) = true := by
  induction bs generalizing k with
  | nil => rfl
  | cons v rest ih =>
    unfold Memory.ofBytesFrom
    split
    · exact Sparse.wfFrom_mono _ (ih (k + 1)) (by omega)
    · simp_all [Sparse.wfFrom]

/-- An image file's memory is in canonical form. -/
theorem Memory.wf_ofBytes (bs : List Byte) : Memory.wf (Memory.ofBytes bs) = true := Memory.wf_ofBytesFrom 0 bs

theorem Memory.lt_ofBytesFrom (k : Nat) (bs : List Byte) :
    ∀ x ∈ Memory.ofBytesFrom k bs, x.1 < k + bs.length := by
  induction bs generalizing k with
  | nil => simp [Memory.ofBytesFrom]
  | cons v rest ih =>
    unfold Memory.ofBytesFrom
    have h := ih (k + 1)
    have h' : ∀ x ∈ Memory.ofBytesFrom (k + 1) rest, x.1 < k + (v :: rest).length := fun x hx => by
      have := h x hx
      simp only [List.length_cons]; omega
    split
    · exact h'
    · simp only [List.forall_mem_cons, List.length_cons]
      exact ⟨by omega, by simpa using h'⟩

/-- Every entry of an image file's memory lies inside the file. -/
theorem Memory.lt_ofBytes (bs : List Byte) : ∀ x ∈ Memory.ofBytes bs, x.1 < bs.length := by
  simpa [Memory.ofBytes] using Memory.lt_ofBytesFrom 0 bs

theorem Memory.read_ofBytesFrom_below (k a : Nat) (bs : List Byte) (h : a < k) :
    Memory.read (Memory.ofBytesFrom k bs) a = 0x00#8 := Sparse.read_below _ (Memory.wf_ofBytesFrom k bs) h

theorem Memory.read_ofBytesFrom (k i : Nat) (bs : List Byte) (h : i < bs.length) :
    Memory.read (Memory.ofBytesFrom k bs) (k + i) = bs[i] := by
  induction bs generalizing k i with
  | nil => simp at h
  | cons v rest ih =>
    unfold Memory.ofBytesFrom
    cases i with
    | zero =>
      split
      · rename_i hv
        rw [hv]; exact Memory.read_ofBytesFrom_below _ _ _ (by omega)
      · simp [Memory.read, Sparse.read]
    | succ n =>
      have hn : n < rest.length := by simpa using h
      have := ih (k + 1) n hn
      have e : k + (n + 1) = k + 1 + n := by omega
      split
      · rw [e]; simpa using this
      · rw [e]
        show Sparse.read 0x00#8 ((k, v) :: _) (k + 1 + n) = _
        rw [Sparse.read, if_neg (by omega : ¬ k + 1 + n = k)]
        simpa [Memory.read] using this

/-- Byte i of an image file is read at offset i. -/
theorem Memory.read_ofBytes (bs : List Byte) (i : Nat) (h : i < bs.length) :
    Memory.read (Memory.ofBytes bs) i = bs[i] := by
  simpa [Memory.ofBytes] using Memory.read_ofBytesFrom 0 i bs h

end Sys2Proof.Machine
end

