-- ==== Sys2Proof/Laws/Ticks.lean ====
section
/-! SUPPORT. What a tick does: it advances the counter by one, it leaves everything the processor's writes hold alone
(`Units.held`), and it keeps `Units.Inv`. -/

namespace Sys2Proof.Machine

/-! ## What the pixel pipeline leaves alone -/

/-- The timer without its request flags. -/
def Timer.unflagged (t : Timer) : Timer := { t with intFlag := 0#5 }

/-- `v` differs from `u` in nothing but the request flags, the mode, the blocking flags and the pipeline's own state. -/
structure SameBase (u v : Units) : Prop where
  cycles : v.cycles = u.cycles
  frameDone : v.frameDone = u.frameDone
  timer : v.timer.unflagged = u.timer.unflagged
  held : v.held = u.held

theorem SameBase.refl (u : Units) : SameBase u u := ⟨rfl, rfl, rfl, rfl⟩

theorem SameBase.trans {u v w : Units} (h : SameBase u v) (k : SameBase v w) : SameBase u w :=
  ⟨k.cycles.trans h.cycles, k.frameDone.trans h.frameDone, k.timer.trans h.timer, k.held.trans h.held⟩

theorem SameBase.ly {u v : Units} (h : SameBase u v) : v.timer.ly = u.timer.ly := 
  show v.timer.unflagged.ly = u.timer.unflagged.ly from congrArg Timer.ly h.timer

theorem requestInterrupt_base (k : Nat) (u : Units) : SameBase u (requestInterrupt k u) := ⟨rfl, rfl, rfl, rfl⟩

theorem enterMode_base (m : PpuMode) (u : Units) : SameBase u (enterMode m u) := ⟨rfl, rfl, rfl, rfl⟩

theorem requestStat_base (n : Nat) (u : Units) : SameBase u (requestStat n u) := by
  unfold requestStat
  split
  · exact requestInterrupt_base _ _
  · exact SameBase.refl u

theorem frameStart_base (u : Units) : SameBase u (frameStart u) := ⟨rfl, rfl, rfl, rfl⟩

theorem enterMode2_base (u : Units) : SameBase u (enterMode2 u) :=
  (enterMode_base .oamScan u).trans (requestStat_base 5 _)

theorem enterMode0_base (u : Units) : SameBase u (enterMode0 u) :=
  (enterMode_base .hblank u).trans (requestStat_base 3 _)

theorem enterMode1_base (u : Units) : SameBase u (enterMode1 u) :=
  SameBase.trans (v := { requestInterrupt 0 (enterMode .vblank u) with
    ppu := { (requestInterrupt 0 (enterMode .vblank u)).ppu with frameReady := true } }) ⟨rfl, rfl, rfl, rfl⟩
    (requestStat_base 4 _)

theorem enterMode3_base (u : Units) : SameBase u (enterMode3 u) := ⟨rfl, rfl, rfl, rfl⟩

theorem fetcherStep_base (u : Units) : SameBase u (fetcherStep u) := by
  unfold fetcherStep
  dsimp only
  split <;> split <;> exact ⟨rfl, rfl, rfl, rfl⟩

theorem mergeSprite_base (i : Nat) (u : Units) : SameBase u (mergeSprite i u) := ⟨rfl, rfl, rfl, rfl⟩

theorem outputPixel_base (u : Units) : SameBase u (outputPixel u) := by
  unfold outputPixel
  split <;> exact ⟨rfl, rfl, rfl, rfl⟩

theorem spriteTrigger_base {u v : Units} (h : spriteTrigger u = some v) : SameBase u v := by
  unfold spriteTrigger at h
  split at h
  · obtain ⟨r, -, rfl⟩ := Option.map_eq_some_iff.1 h
    exact ⟨rfl, rfl, rfl, rfl⟩
  · exact nomatch h

theorem stallTick_base (u : Units) : SameBase u (stallTick u) := by
  unfold stallTick
  dsimp only
  split
  · split
    · exact SameBase.trans (v := { u with ppu := { u.ppu with stall := u.ppu.stall - 1 } }) ⟨rfl, rfl, rfl, rfl⟩
        ⟨rfl, rfl, rfl, rfl⟩
    · exact ⟨rfl, rfl, rfl, rfl⟩
  · exact ⟨rfl, rfl, rfl, rfl⟩

theorem drawPixel_base (u : Units) : SameBase u (drawPixel u) := by
  unfold drawPixel
  split
  · exact SameBase.refl u
  · split
    · exact ⟨rfl, rfl, rfl, rfl⟩
    · split
      · exact spriteTrigger_base ‹_›
      · exact outputPixel_base u

theorem drawTick_base (u : Units) : SameBase u (drawTick u) := by
  unfold drawTick
  split
  · exact stallTick_base u
  · exact (fetcherStep_base u).trans (drawPixel_base _)

theorem modeStep_base (u : Units) : SameBase u (modeStep u) := by
  unfold modeStep
  dsimp only
  split
  · have h : SameBase u (if u.timer.ly.toNat = 0 then frameStart u else u) := by
      split
      · exact frameStart_base u
      · exact SameBase.refl u
    split
    · exact h.trans (enterMode2_base _)
    · split
      · exact h.trans (enterMode1_base _)
      · exact h
  · split
    · exact enterMode3_base u
    · exact SameBase.refl u

theorem blankStep_base (u : Units) : SameBase u (blankStep u) := by
  unfold blankStep
  split
  · exact SameBase.refl u
  · exact ⟨rfl, rfl, rfl, rfl⟩

theorem drawStep_base (u : Units) : SameBase u (drawStep u) := by
  unfold drawStep
  split
  · split
    · exact enterMode0_base u
    · exact drawTick_base u
  · exact SameBase.refl u

/-- The pixel pipeline changes only the request flags, the mode, the blocking flags and its own state (R410). -/
theorem pixelTick_base (u : Units) : SameBase u (pixelTick u) :=
  ((modeStep_base u).trans (blankStep_base _)).trans (drawStep_base _)

/-! ## What the timer unit leaves alone -/

/-- The timer unit touches neither the counter nor the bus nor the pipeline, and no register that only the processor
writes. -/
structure TimerOnly (u v : Units) : Prop where
  cycles : v.cycles = u.cycles
  frameDone : v.frameDone = u.frameDone
  bus : v.bus = u.bus
  ppu : v.ppu = u.ppu
  held : v.held = u.held

theorem TimerOnly.refl (u : Units) : TimerOnly u u := ⟨rfl, rfl, rfl, rfl, rfl⟩

theorem TimerOnly.trans {u v w : Units} (h : TimerOnly u v) (k : TimerOnly v w) : TimerOnly u w :=
  ⟨k.cycles.trans h.cycles, k.frameDone.trans h.frameDone, k.bus.trans h.bus, k.ppu.trans h.ppu,
    k.held.trans h.held⟩

theorem divStep_only (u : Units) : TimerOnly u (divStep u) := by
  unfold divStep
  split <;> exact ⟨rfl, rfl, rfl, rfl, rfl⟩

theorem timaStep_only (u : Units) : TimerOnly u (timaStep u) := by
  unfold timaStep
  split
  · dsimp only
    split <;> exact ⟨rfl, rfl, rfl, rfl, rfl⟩
  · exact TimerOnly.refl u

theorem compareLYC_only (u : Units) : TimerOnly u (compareLYC u) := by
  unfold compareLYC
  split <;> exact ⟨rfl, rfl, rfl, rfl, rfl⟩

theorem lyStep_only (u : Units) : TimerOnly u (lyStep u) := by
  unfold lyStep
  dsimp only
  split
  · exact TimerOnly.refl u
  · exact TimerOnly.trans (v := { u with timer := { u.timer with ly := BitVec.ofNat 8 (u.cycles / lineCycles) } })
      ⟨rfl, rfl, rfl, rfl, rfl⟩ (compareLYC_only _)

theorem timerTick_only (u : Units) : TimerOnly u (timerTick u) :=
  ((divStep_only u).trans (timaStep_only _)).trans (lyStep_only _)

/-! ## The whole tick -/

/-- A tick advances the counter by one, modulo the frame (R73). -/
@[simp] theorem tick_cycles (u : Units) : (tick u).cycles = (u.cycles + 1) % frameCycles :=
  ((pixelTick_base _).cycles).trans (timerTick_only _).cycles

/-- A tick sets `frameDone` exactly when the counter wraps (R73). -/
@[simp] theorem tick_frameDone (u : Units) :
    (tick u).frameDone = (u.frameDone || decide ((u.cycles + 1) % frameCycles = 0)) :=
  ((pixelTick_base _).frameDone).trans (timerTick_only _).frameDone

/-- A tick changes nothing that only the processor's writes change. -/
@[simp] theorem tick_held (u : Units) : (tick u).held = u.held :=
  ((pixelTick_base _).held).trans (timerTick_only _).held

@[simp] theorem ticks_held (n : Nat) (u : Units) : (ticks n u).held = u.held := by
  induction n generalizing u with
  | zero => rfl
  | succ n ih => exact (ih (tick u)).trans (tick_held u)

@[simp] theorem ticks_mem (n : Nat) (u : Units) : (ticks n u).bus.mem = u.bus.mem := congrArg Held.mem (ticks_held n u)

@[simp] theorem ticks_bank (n : Nat) (u : Units) : (ticks n u).bus.bank = u.bus.bank :=
  congrArg Held.bank (ticks_held n u)

theorem ticks_cycles_mod (n : Nat) (u : Units) : (ticks n u).cycles % frameCycles = (u.cycles + n) % frameCycles := by
  induction n generalizing u with
  | zero => rfl
  | succ n ih =>
    show (ticks n (tick u)).cycles % frameCycles = _
    rw [ih, tick_cycles, Nat.mod_add_mod]
    congr 1; omega

/-- `n + 1` ticks advance the counter by `n + 1`, modulo the frame. -/
theorem ticks_cycles (n : Nat) (u : Units) (h : u.cycles < frameCycles) :
    (ticks n u).cycles = (u.cycles + n) % frameCycles := by
  cases n with
  | zero => exact (Nat.mod_eq_of_lt h).symm
  | succ n =>
    have : ∀ (n : Nat) (u : Units), u.cycles < frameCycles → (ticks n u).cycles < frameCycles := by
      intro n
      induction n with
      | zero => intro u h; exact h
      | succ n ih =>
        intro u _
        exact ih (tick u) (by rw [tick_cycles]; exact Nat.mod_lt _ (by decide))
    rw [← ticks_cycles_mod, Nat.mod_eq_of_lt (this _ _ h)]

/-- Fewer ticks than a frame set `frameDone` exactly when they wrap the counter. -/
theorem ticks_frameDone (n : Nat) (u : Units) (h : u.cycles < frameCycles) (hn : n < frameCycles) :
    (ticks n u).frameDone = (u.frameDone || decide (frameCycles ≤ u.cycles + n)) := by
  induction n generalizing u with
  | zero => simp [ticks, Nat.not_le.mpr h]
  | succ n ih =>
    show (ticks n (tick u)).frameDone = _
    rw [ih _ (by rw [tick_cycles]; exact Nat.mod_lt _ (by decide)) (by omega), tick_frameDone, tick_cycles, Bool.or_assoc,
      ← Bool.decide_or]
    congr 2
    simp only [frameCycles] at *
    exact propext (by omega)

theorem ticks_add (m n : Nat) (u : Units) : ticks (m + n) u = ticks n (ticks m u) := by
  induction m generalizing u with
  | zero => rw [Nat.zero_add]; rfl
  | succ m ih =>
    rw [show m + 1 + n = (m + n) + 1 by omega]
    exact ih (tick u)

end Sys2Proof.Machine
end

