-- ==== Sys2Proof/Laws/UnitsInv.lean ====
section
/-! SUPPORT. A tick, a bus write and an interrupt request keep `Units.Inv`. -/

namespace Sys2Proof.Machine

/-! ## The timer unit's targets -/

/-- The part of the invariant that the timer unit keeps. -/
structure TargetsOk (u : Units) : Prop where
  nextDIV_lt : u.timer.nextDIVCycle < frameCycles
  nextTIMA_lt : u.timer.nextTIMACycle < frameCycles
  div_ahead : 1 ≤ ticksUntil u.cycles u.timer.nextDIVCycle ∧ ticksUntil u.cycles u.timer.nextDIVCycle ≤ 256
  tima_ahead : tacEnabled u.timer.tac = true →
    1 ≤ ticksUntil u.cycles u.timer.nextTIMACycle ∧
      ticksUntil u.cycles u.timer.nextTIMACycle ≤ timaPeriod u.timer.tac

theorem timaPeriod_bounds (t : BitVec 3) : 16 ≤ timaPeriod t ∧ timaPeriod t ≤ 1024 := by
  revert t; decide

/-- A fresh target is its period ahead. -/
theorem ticksUntil_fresh {c n : Nat} (hc : c < frameCycles) (hn : n ≤ 1024) :
    ticksUntil c ((c + n) % frameCycles) = n := by
  simp only [ticksUntil, frameCycles] at *; omega

/-- One tick brings a target that is not met one tick nearer. -/
theorem ticksUntil_step {c t m : Nat} (_hc : c < frameCycles) (_ht : t < frameCycles)
    (h : 1 ≤ ticksUntil c t ∧ ticksUntil c t ≤ m) (hne : (c + 1) % frameCycles ≠ t) (hm : m ≤ 1024) :
    1 ≤ ticksUntil ((c + 1) % frameCycles) t ∧ ticksUntil ((c + 1) % frameCycles) t ≤ m := by
  simp only [ticksUntil, frameCycles] at *; omega

/-- The timer unit's steps after the counter advanced, from targets that were right before it advanced. -/
theorem timerTick_targets {u : Units} (hc : u.cycles < frameCycles) (h : TargetsOk u) :
    TargetsOk (timerTick (advanceCycle u)) := by
  have hb := timaPeriod_bounds u.timer.tac
  have key : TargetsOk (timaStep (divStep (advanceCycle u))) := by
    have hlt : (u.cycles + 1) % frameCycles < frameCycles := Nat.mod_lt _ (by decide)
    have hdiv : (divStep (advanceCycle u)).timer.nextDIVCycle < frameCycles ∧
        (1 ≤ ticksUntil ((u.cycles + 1) % frameCycles) (divStep (advanceCycle u)).timer.nextDIVCycle ∧
          ticksUntil ((u.cycles + 1) % frameCycles) (divStep (advanceCycle u)).timer.nextDIVCycle ≤ 256) := by
      unfold divStep
      split
      · refine ⟨Nat.mod_lt _ (by decide), ?_⟩
        show 1 ≤ ticksUntil _ (((u.cycles + 1) % frameCycles + 256) % frameCycles) ∧
          ticksUntil _ (((u.cycles + 1) % frameCycles + 256) % frameCycles) ≤ 256
        rw [ticksUntil_fresh hlt (by decide)]; decide
      · rename_i hne
        exact ⟨h.nextDIV_lt, ticksUntil_step hc h.nextDIV_lt h.div_ahead hne (by decide)⟩
    have hcyc : (divStep (advanceCycle u)).cycles = (u.cycles + 1) % frameCycles := (divStep_only _).cycles
    have htac : (divStep (advanceCycle u)).timer.tac = u.timer.tac := congrArg Held.tac (divStep_only _).held
    have htima : (divStep (advanceCycle u)).timer.nextTIMACycle = u.timer.nextTIMACycle := by
      unfold divStep; split <;> rfl
    generalize divStep (advanceCycle u) = d at *
    unfold timaStep
    split
    · have hp : (d.cycles + timaPeriod d.timer.tac) % frameCycles < frameCycles := Nat.mod_lt _ (by decide)
      have hf : ticksUntil d.cycles ((d.cycles + timaPeriod d.timer.tac) % frameCycles) = timaPeriod d.timer.tac :=
        ticksUntil_fresh (by rw [hcyc]; exact hlt) (by rw [htac]; exact hb.2)
      have hone : 1 ≤ timaPeriod d.timer.tac := by rw [htac]; omega
      rw [← hcyc] at hdiv
      dsimp only
      split
      · exact ⟨hdiv.1, hp, hdiv.2, fun _ => ⟨Nat.le_trans hone (Nat.le_of_eq hf.symm), Nat.le_of_eq hf⟩⟩
      · exact ⟨hdiv.1, hp, hdiv.2, fun _ => ⟨Nat.le_trans hone (Nat.le_of_eq hf.symm), Nat.le_of_eq hf⟩⟩
    · rename_i hne
      refine ⟨hdiv.1, htima ▸ h.nextTIMA_lt, hcyc ▸ hdiv.2, fun hen => ?_⟩
      rw [hcyc, htima, htac]
      rw [htac] at hen
      refine ticksUntil_step hc h.nextTIMA_lt (h.tima_ahead hen) (fun e => hne ⟨htac ▸ hen, ?_⟩) hb.2
      rw [hcyc, htima]; exact e
  show TargetsOk (lyStep _)
  generalize timaStep (divStep (advanceCycle u)) = v at key
  unfold lyStep
  dsimp only
  split
  · exact key
  · unfold compareLYC
    split <;> exact ⟨key.1, key.2, key.3, key.4⟩

/-- LY after the timer unit's tick (R389). -/
theorem timerTick_ly (u : Units) (hc : u.cycles < frameCycles) :
    (timerTick u).timer.ly.toNat = u.cycles / lineCycles := by
  have h : (timaStep (divStep u)).cycles = u.cycles :=
    ((divStep_only u).trans (timaStep_only _)).cycles
  show (lyStep _).timer.ly.toNat = _
  generalize timaStep (divStep u) = v at h
  have hb : (BitVec.ofNat 8 (v.cycles / lineCycles)).toNat = v.cycles / lineCycles := by
    rw [h, BitVec.toNat_ofNat]
    simp only [frameCycles, lineCycles] at *; omega
  unfold lyStep
  dsimp only
  split
  · rename_i e; rw [← e, hb, h]
  · unfold compareLYC
    split <;> exact hb.trans (by rw [h])

/-! ## The pipeline's own bounds -/

/-- The part of the invariant that speaks of the pipeline alone. -/
structure Ppu.Bounds (p : Ppu) : Prop where
  bg_le : p.bgFifo.length ≤ 16
  sprite_le : p.spriteFifo.length ≤ 8
  scan_le : p.scan.length ≤ 10
  scan_index : ∀ e ∈ p.scan, e.index < 40
  lcdX_le : p.lcdX ≤ 160
  discard_le : p.discard ≤ 7
  stall_le : p.stall ≤ 5
  pending_iff : p.pendingSprite.isSome = decide (0 < p.stall)
  pending_index : ∀ i, p.pendingSprite = some i → i < 40
  lcd_wf : Sparse.wf 0#2 p.lcd = true
  lcd_cell : ∀ cell ∈ p.lcd, cell.1 < 144 * 160

theorem requestStat_ppu (n : Nat) (u : Units) : (requestStat n u).ppu = u.ppu := by
  unfold requestStat; split <;> rfl

theorem requestStat_bus (n : Nat) (u : Units) : (requestStat n u).bus = u.bus := by
  unfold requestStat; split <;> rfl

theorem scanOam_length (u : Units) : (scanOam u).length ≤ 10 := by
  simp only [scanOam, List.length_map, List.length_take]; omega

theorem scanOam_index (u : Units) : ∀ e ∈ scanOam u, e.index < 40 := by
  intro e he
  simp only [scanOam, List.mem_map] at he
  obtain ⟨i, hi, rfl⟩ := he
  have := List.mem_of_mem_take hi
  simp only [List.mem_filter, List.mem_range] at this
  exact this.1

theorem fetcherStep_bounds {u : Units} (h : u.ppu.Bounds) : (fetcherStep u).ppu.Bounds := by
  unfold fetcherStep
  dsimp only
  split <;> split <;>
    first
    | exact ⟨h.1, h.2, h.3, h.4, h.5, h.6, h.7, h.8, h.9, h.10, h.11⟩
    | exact h
    | skip
  rename_i hle
  refine ⟨?_, h.2, h.3, h.4, h.5, h.6, h.7, h.8, h.9, h.10, h.11⟩
  simp only [List.length_append, tileEntries, List.length_map, List.length_range]; omega

theorem triggerIn_spec {u : Units} : ∀ {l : List ScanEntry} {r : Nat × List ScanEntry}, triggerIn u l = some r →
    (∀ e ∈ l, e.index < 40) → r.1 < 40 ∧ r.2.length = l.length ∧ ∀ e ∈ r.2, e.index < 40 := by
  intro l
  induction l with
  | nil => intro r h; exact nomatch h
  | cons s rest ih =>
    intro r h hall
    rw [List.forall_mem_cons] at hall
    unfold triggerIn at h
    split at h
    · obtain rfl := Option.some.inj h
      exact ⟨hall.1, rfl, List.forall_mem_cons.2 ⟨hall.1, hall.2⟩⟩
    · obtain ⟨q, hq, rfl⟩ := Option.map_eq_some_iff.1 h
      obtain ⟨h1, h2, h3⟩ := ih hq hall.2
      exact ⟨h1, by simp [h2], List.forall_mem_cons.2 ⟨hall.1, h3⟩⟩

theorem spriteTrigger_bounds {u v : Units} (h : u.ppu.Bounds) (ht : spriteTrigger u = some v) : v.ppu.Bounds := by
  unfold spriteTrigger at ht
  split at ht
  · obtain ⟨r, hr, rfl⟩ := Option.map_eq_some_iff.1 ht
    obtain ⟨h1, h2, h3⟩ := triggerIn_spec hr h.scan_index
    exact ⟨h.1, h.2, h2 ▸ h.3, h3, h.5, h.6, Nat.le_refl 5, rfl, fun i hi => Option.some.inj hi ▸ h1, h.10, h.11⟩
  · exact nomatch ht

theorem mergePixel_length (q : List FifoEntry) (slot : Nat) (px : FifoEntry) (hq : q.length ≤ 8) (hs : slot < 8) :
    (mergePixel q slot px).length ≤ 8 := by
  unfold mergePixel
  dsimp only
  split <;> simp <;> omega

theorem mergeSprite_length (i : Nat) {u : Units} (h : u.ppu.spriteFifo.length ≤ 8) :
    (mergeSprite i u).ppu.spriteFifo.length ≤ 8 := by
  show (List.foldl _ u.ppu.spriteFifo (List.range (8 - (8 - (oamByte u (4 * i + 1)).toNat)))).length ≤ 8
  have : ∀ (l : List Nat) (q : List FifoEntry) (f : Nat → FifoEntry), (∀ k ∈ l, k < 8) → q.length ≤ 8 →
      (l.foldl (fun q k => mergePixel q k (f k)) q).length ≤ 8 := by
    intro l
    induction l with
    | nil => intro q f _ hq; exact hq
    | cons k rest ih =>
      intro q f hl hq
      rw [List.forall_mem_cons] at hl
      exact ih _ f hl.2 (mergePixel_length q k (f k) hq hl.1)
  refine this _ _ (fun k => spritePixel u i (8 - (oamByte u (4 * i + 1)).toNat + k)) (fun k hk => ?_) h
  rw [List.mem_range] at hk; omega

theorem stallTick_bounds {u : Units} (h : u.ppu.Bounds) (hs : 0 < u.ppu.stall) : (stallTick u).ppu.Bounds := by
  have h7 := h.stall_le
  unfold stallTick
  dsimp only
  split
  · rename_i hz
    split
    · exact ⟨h.1, mergeSprite_length _ (u := { u with ppu := { u.ppu with stall := u.ppu.stall - 1 } }) h.2, h.3, h.4,
        h.5, h.6, by show u.ppu.stall - 1 ≤ 5; omega, by simp [mergeSprite, hz], fun i hi => (nomatch hi), h.10, h.11⟩
    · rename_i hn
      have := h.pending_iff
      rw [hn] at this; simp [hs] at this
  · rename_i hz
    refine ⟨h.1, h.2, h.3, h.4, h.5, h.6, by show u.ppu.stall - 1 ≤ 5; omega, ?_, h.9, h.10, h.11⟩
    show u.ppu.pendingSprite.isSome = decide (0 < u.ppu.stall - 1)
    rw [h.pending_iff, decide_eq_true hs, decide_eq_true (by omega)]

theorem outputPixel_bounds {u : Units} (h : u.ppu.Bounds) (hly : u.timer.ly.toNat < 144) (hx : u.ppu.lcdX ≠ 160) :
    (outputPixel u).ppu.Bounds := by
  have h5 := h.lcdX_le
  have h1 := h.bg_le
  have h2 := h.sprite_le
  unfold outputPixel
  split
  · exact h
  · rename_i bg rest hb
    refine ⟨?_, ?_, h.3, h.4, ?_, h.6, h.7, h.8, h.9, ?_, ?_⟩
    · show rest.length ≤ 16
      rw [hb] at h1; simp at h1; omega
    · show u.ppu.spriteFifo.tail.length ≤ 8
      rw [List.length_tail]; omega
    · show u.ppu.lcdX + 1 ≤ 160
      omega
    · dsimp only
      split
      · exact h.10
      · exact Sparse.wfFrom_write _ _ h.10 (Nat.zero_le _)
    · dsimp only
      split
      · exact h.11
      · exact Sparse.forall_write (p := fun k => k < 144 * 160) _ _ h.11 (by omega)

theorem drawPixel_bounds {u : Units} (h : u.ppu.Bounds) (hly : u.timer.ly.toNat < 144) (hx : u.ppu.lcdX ≠ 160) :
    (drawPixel u).ppu.Bounds := by
  have h1 := h.bg_le
  have h6 := h.discard_le
  unfold drawPixel
  split
  · exact h
  · rename_i bg rest hb
    split
    · refine ⟨?_, h.2, h.3, h.4, h.5, ?_, h.7, h.8, h.9, h.10, h.11⟩
      · show rest.length ≤ 16
        rw [hb] at h1; simp at h1; omega
      · show u.ppu.discard - 1 ≤ 7
        omega
    · split
      · exact spriteTrigger_bounds h ‹_›
      · exact outputPixel_bounds h hly hx

theorem fetcherStep_lcdX (u : Units) : (fetcherStep u).ppu.lcdX = u.ppu.lcdX := by
  unfold fetcherStep
  dsimp only
  split <;> split <;> rfl

theorem drawTick_bounds {u : Units} (h : u.ppu.Bounds) (hly : u.timer.ly.toNat < 144) (hx : u.ppu.lcdX ≠ 160) :
    (drawTick u).ppu.Bounds := by
  unfold drawTick
  split
  · exact stallTick_bounds h ‹_›
  · refine drawPixel_bounds (fetcherStep_bounds h) ?_ ?_
    · rw [(fetcherStep_base u).ly]; exact hly
    · rw [fetcherStep_lcdX]; exact hx

/-! ## The mode -/

/-- The blocking flags and the ready mark follow the mode. -/
structure ModeOk (u : Units) : Prop where
  vram_blocked : u.bus.vramBlocked = decide (u.ppu.mode = .draw)
  oam_blocked : u.bus.oamBlocked = decide (u.ppu.mode = .oamScan ∨ u.ppu.mode = .draw)
  ready_iff : u.ppu.frameReady = decide (u.ppu.mode = .vblank)

/-- `v` has the mode, the blocking flags and the ready mark of `u`. -/
def SameMode (u v : Units) : Prop :=
  v.ppu.mode = u.ppu.mode ∧ v.bus.vramBlocked = u.bus.vramBlocked ∧ v.bus.oamBlocked = u.bus.oamBlocked ∧
    v.ppu.frameReady = u.ppu.frameReady

theorem SameMode.ok {u v : Units} (h : SameMode u v) (k : ModeOk u) : ModeOk v := by
  obtain ⟨h1, h2, h3, h4⟩ := h
  exact ⟨by rw [h1, h2]; exact k.1, by rw [h1, h3]; exact k.2, by rw [h1, h4]; exact k.3⟩

theorem drawTick_mode (u : Units) : SameMode u (drawTick u) := by
  have hf : ∀ u, SameMode u (fetcherStep u) := fun u => by
    unfold fetcherStep
    dsimp only
    split <;> split <;> exact ⟨rfl, rfl, rfl, rfl⟩
  unfold drawTick
  split
  · unfold stallTick
    dsimp only
    split
    · split <;> exact ⟨rfl, rfl, rfl, rfl⟩
    · exact ⟨rfl, rfl, rfl, rfl⟩
  · obtain ⟨h1, h2, h3, h4⟩ := hf u
    unfold drawPixel
    split
    · exact ⟨h1, h2, h3, h4⟩
    · split
      · exact ⟨h1, h2, h3, h4⟩
      · split
        · rename_i v hv
          unfold spriteTrigger at hv
          split at hv
          · obtain ⟨r, -, rfl⟩ := Option.map_eq_some_iff.1 hv
            exact ⟨h1, h2, h3, h4⟩
          · exact nomatch hv
        · unfold outputPixel
          split <;> exact ⟨h1, h2, h3, h4⟩

theorem blankStep_mode (u : Units) : SameMode u (blankStep u) := by
  unfold blankStep
  split <;> exact ⟨rfl, rfl, rfl, rfl⟩

theorem blankStep_bounds {u : Units} (h : u.ppu.Bounds) : (blankStep u).ppu.Bounds := by
  unfold blankStep
  split
  · exact h
  · exact ⟨h.1, h.2, h.3, h.4, h.5, h.6, h.7, h.8, h.9, h.10, h.11⟩

theorem enterMode2_ppu (u : Units) : (enterMode2 u).ppu = { u.ppu with mode := .oamScan } := requestStat_ppu 5 _

theorem enterMode0_ppu (u : Units) : (enterMode0 u).ppu = { u.ppu with mode := .hblank } := requestStat_ppu 3 _

theorem enterMode1_ppu (u : Units) : (enterMode1 u).ppu = { u.ppu with mode := .vblank, frameReady := true } :=
  requestStat_ppu 4 _

theorem enterMode2_bus (u : Units) :
    (enterMode2 u).bus = { u.bus with vramBlocked := false, oamBlocked := true } := requestStat_bus 5 _

theorem enterMode0_bus (u : Units) :
    (enterMode0 u).bus = { u.bus with vramBlocked := false, oamBlocked := false } := requestStat_bus 3 _

theorem enterMode1_bus (u : Units) :
    (enterMode1 u).bus = { u.bus with vramBlocked := false, oamBlocked := false } := requestStat_bus 4 _

/-- What the mode controller leaves (R411, R412), from a mode that was right for the position before the tick. -/
theorem modeStep_spec {u : Units} (hb : u.ppu.Bounds) (hm : ModeOk u)
    (hc : u.cycles < frameCycles) (hly : u.timer.ly.toNat = u.cycles / lineCycles)
    (hv : u.cycles ≠ 0 → (u.ppu.mode = .vblank ↔ 144 * lineCycles ≤ u.cycles - 1))
    (hs : u.cycles ≠ 0 → u.cycles - 1 < 144 * lineCycles →
      (u.ppu.mode = .oamScan ↔ (u.cycles - 1) % lineCycles < 80)) :
    (modeStep u).ppu.Bounds ∧ ModeOk (modeStep u) ∧
      ((modeStep u).ppu.mode = .vblank ↔ 144 ≤ u.timer.ly.toNat) ∧
      (u.timer.ly.toNat < 144 → ((modeStep u).ppu.mode = .oamScan ↔ u.cycles % lineCycles < 80)) := by
  have hready := hm.ready_iff
  unfold modeStep
  dsimp only
  by_cases hd : u.cycles % lineCycles = 0
  · rw [if_pos hd]
    by_cases hl : u.timer.ly.toNat < 144
    · rw [if_pos hl]
      refine ⟨?_, ⟨?_, ?_, ?_⟩, ?_, ?_⟩
      · rw [enterMode2_ppu]
        split
        · exact ⟨hb.1, hb.2, by simp [frameStart], by simp [frameStart], hb.5, hb.6, hb.7, hb.8, hb.9, hb.10, hb.11⟩
        · exact ⟨hb.1, hb.2, hb.3, hb.4, hb.5, hb.6, hb.7, hb.8, hb.9, hb.10, hb.11⟩
      · rw [enterMode2_ppu, enterMode2_bus]; rfl
      · rw [enterMode2_ppu, enterMode2_bus]; rfl
      · rw [enterMode2_ppu]
        split
        · rfl
        · rename_i h0
          show u.ppu.frameReady = false
          rw [hready, decide_eq_false]
          have hn : u.cycles ≠ 0 := by
            rintro e; rw [hly, e] at h0; simp at h0
          rw [hv hn, hly] at *
          simp only [frameCycles, lineCycles] at *; omega
      · rw [enterMode2_ppu]
        exact ⟨fun h => (nomatch h), fun h => absurd hl (by omega)⟩
      · intro _
        rw [enterMode2_ppu]
        exact ⟨fun _ => by omega, fun _ => rfl⟩
    · rw [if_neg hl]
      have hn : u.cycles ≠ 0 := by
        intro e; rw [hly, e] at hl; simp at hl
      have h0 : ¬ u.timer.ly.toNat = 0 := by omega
      rw [if_neg h0]
      by_cases h4 : u.timer.ly.toNat = 144
      · rw [if_pos h4]
        refine ⟨?_, ⟨?_, ?_, ?_⟩, ?_, fun h => absurd h hl⟩
        · rw [enterMode1_ppu]
          exact ⟨hb.1, hb.2, hb.3, hb.4, hb.5, hb.6, hb.7, hb.8, hb.9, hb.10, hb.11⟩
        · rw [enterMode1_ppu, enterMode1_bus]; rfl
        · rw [enterMode1_ppu, enterMode1_bus]; rfl
        · rw [enterMode1_ppu]; rfl
        · rw [enterMode1_ppu]
          exact ⟨fun _ => by omega, fun _ => rfl⟩
      · rw [if_neg h4]
        refine ⟨hb, hm, ?_, fun h => absurd h hl⟩
        rw [hv hn, hly] at *
        simp only [frameCycles, lineCycles] at *; omega
  · rw [if_neg hd]
    have hn : u.cycles ≠ 0 := by
      intro e; rw [e] at hd; exact hd rfl
    have hv' := hv hn
    have hs' := hs hn
    by_cases h8 : u.cycles % lineCycles = 80 ∧ u.timer.ly.toNat < 144
    · rw [if_pos h8]
      refine ⟨?_, ⟨rfl, rfl, ?_⟩, ⟨fun h => (nomatch h), fun h => absurd h8.2 (by omega)⟩,
        fun _ => ⟨fun h => (nomatch h), fun h => absurd h8.1 (by omega)⟩⟩
      · exact ⟨Nat.zero_le _, Nat.zero_le _, scanOam_length _, scanOam_index _, Nat.zero_le _,
          by show u.ppu.scx.toNat % 8 ≤ 7; omega, Nat.zero_le _, rfl, fun i hi => (nomatch hi), hb.10, hb.11⟩
      · show u.ppu.frameReady = false
        rw [hready, decide_eq_false]
        rw [hv', hly] at *
        simp only [frameCycles, lineCycles] at *; omega
    · rw [if_neg h8]
      refine ⟨hb, hm, ?_, fun hl => ?_⟩
      · rw [hv', hly]
        simp only [frameCycles, lineCycles] at *; omega
      · rw [hly] at h8 hl
        rw [hs' (by simp only [frameCycles, lineCycles] at *; omega)]
        simp only [frameCycles, lineCycles] at *; omega

/-! ## The tick keeps the invariant -/

theorem Units.Inv.targets {u : Units} (h : u.Inv) : TargetsOk u :=
  ⟨h.nextDIV_lt, h.nextTIMA_lt, h.div_ahead, h.tima_ahead⟩

theorem Units.Inv.bounds {u : Units} (h : u.Inv) : u.ppu.Bounds :=
  ⟨h.bg_le, h.sprite_le, h.scan_le, h.scan_index, h.lcdX_le, h.discard_le, h.stall_le, h.pending_iff,
    h.pending_index, h.lcd_wf, h.lcd_cell⟩

theorem Units.Inv.modeOk {u : Units} (h : u.Inv) : ModeOk u := ⟨h.vram_blocked, h.oam_blocked, h.ready_iff⟩

/-- The invariant from its parts. -/
theorem Units.Inv.ofParts {u : Units} (hc : u.cycles < frameCycles) (hly : u.timer.ly.toNat = u.cycles / lineCycles)
    (ht : TargetsOk u) (hm : ModeOk u) (hv : u.ppu.mode = .vblank ↔ 144 ≤ u.timer.ly.toNat)
    (hs : u.timer.ly.toNat < 144 → (u.ppu.mode = .oamScan ↔ u.cycles % lineCycles < 80)) (hb : u.ppu.Bounds)
    (hw : Memory.wf u.bus.mem = true) (hr : Memory.inRam u.bus.mem = true) : u.Inv :=
  ⟨hc, hly, ht.1, ht.2, ht.3, ht.4, hm.1, hm.2, hv, hs, hm.3, hb.1, hb.2, hb.3, hb.4, hb.5, hb.6, hb.7, hb.8, hb.9,
    hb.10, hb.11, hw, hr⟩

/-- What the drawing part of a tick leaves. -/
theorem drawStep_spec {u : Units} (hb : u.ppu.Bounds) (hm : ModeOk u) (hd : u.ppu.mode = .draw → u.timer.ly.toNat < 144) :
    (drawStep u).ppu.Bounds ∧ ModeOk (drawStep u) ∧
      ((drawStep u).ppu.mode = .vblank ↔ u.ppu.mode = .vblank) ∧
      ((drawStep u).ppu.mode = .oamScan ↔ u.ppu.mode = .oamScan) := by
  unfold drawStep
  by_cases h : u.ppu.mode = .draw
  · rw [if_pos h]
    by_cases hx : u.ppu.lcdX = 160
    · rw [if_pos hx]
      refine ⟨?_, ⟨?_, ?_, ?_⟩, ?_, ?_⟩
      · rw [enterMode0_ppu]
        exact ⟨hb.1, hb.2, hb.3, hb.4, hb.5, hb.6, hb.7, hb.8, hb.9, hb.10, hb.11⟩
      · rw [enterMode0_ppu, enterMode0_bus]; rfl
      · rw [enterMode0_ppu, enterMode0_bus]; rfl
      · rw [enterMode0_ppu]
        show u.ppu.frameReady = false
        rw [hm.ready_iff, h]; rfl
      · rw [enterMode0_ppu, h]; simp
      · rw [enterMode0_ppu, h]; simp
    · rw [if_neg hx]
      obtain hmode := drawTick_mode u
      exact ⟨drawTick_bounds hb (hd h) hx, hmode.ok hm, by rw [hmode.1], by rw [hmode.1]⟩
  · rw [if_neg h]
    exact ⟨hb, hm, Iff.rfl, Iff.rfl⟩

/-- A tick keeps the invariant of the units. -/
theorem tick_inv {u : Units} (h : u.Inv) : (tick u).Inv := by
  have hc : (advanceCycle u).cycles = (u.cycles + 1) % frameCycles := rfl
  have hlt : (u.cycles + 1) % frameCycles < frameCycles := Nat.mod_lt _ (by decide)
  have ht := timerTick_targets h.cycles_lt h.targets
  have hly := timerTick_ly (advanceCycle u) hlt
  have ho := timerTick_only (advanceCycle u)
  have hcyc : (timerTick (advanceCycle u)).cycles = (u.cycles + 1) % frameCycles := ho.cycles
  have hppu : (timerTick (advanceCycle u)).ppu = u.ppu := ho.ppu
  have hbus : (timerTick (advanceCycle u)).bus = u.bus := ho.bus
  have hpos := h.cycles_lt
  have hlv := h.ly_eq
  have hvb := h.vblank_iff
  have hsc := h.scan_iff
  show (pixelTick (timerTick (advanceCycle u))).Inv
  rw [hc] at hly
  generalize timerTick (advanceCycle u) = w at *
  have hms := modeStep_spec (u := w) (hppu ▸ h.bounds)
    ⟨by rw [hbus, hppu]; exact h.vram_blocked, by rw [hbus, hppu]; exact h.oam_blocked,
      by rw [hppu]; exact h.ready_iff⟩ (hcyc ▸ hlt) (by rw [hly, hcyc])
    (fun hn => by
      rw [hppu, hvb, hlv, hcyc]
      rw [hcyc] at hn
      simp only [frameCycles, lineCycles] at *; omega)
    (fun hn hl => by
      rw [hcyc] at hn hl
      rw [hppu, hsc (by rw [hlv]; simp only [frameCycles, lineCycles] at *; omega), hcyc]
      simp only [frameCycles, lineCycles] at *; omega)
  obtain ⟨m1, m2, m3, m4⟩ := hms
  have hbase := pixelTick_base w
  have hb2 := blankStep_mode (modeStep w)
  have hlyb : (blankStep (modeStep w)).timer.ly = w.timer.ly :=
    ((modeStep_base w).trans (blankStep_base _)).ly
  obtain ⟨d1, d2, d3, d4⟩ := drawStep_spec (u := blankStep (modeStep w)) (blankStep_bounds m1) (hb2.ok m2)
    (fun hd => by
      rw [hb2.1] at hd
      rw [hlyb]
      have : ¬ (modeStep w).ppu.mode = .vblank := by rw [hd]; exact fun e => nomatch e
      rw [m3] at this; omega)
  rw [hb2.1] at d3 d4
  have e1 : (pixelTick w).cycles = (u.cycles + 1) % frameCycles := hbase.cycles.trans hcyc
  have e2 : (pixelTick w).timer.ly = w.timer.ly := hbase.ly
  have e3 : (pixelTick w).timer.nextDIVCycle = w.timer.nextDIVCycle :=
    show (pixelTick w).timer.unflagged.nextDIVCycle = w.timer.unflagged.nextDIVCycle from
      congrArg Timer.nextDIVCycle hbase.timer
  have e4 : (pixelTick w).timer.nextTIMACycle = w.timer.nextTIMACycle :=
    show (pixelTick w).timer.unflagged.nextTIMACycle = w.timer.unflagged.nextTIMACycle from
      congrArg Timer.nextTIMACycle hbase.timer
  have e5 : (pixelTick w).timer.tac = w.timer.tac := congrArg Held.tac hbase.held
  have e6 : (pixelTick w).bus.mem = u.bus.mem := (congrArg Held.mem hbase.held).trans (congrArg Bus.mem hbus)
  refine Units.Inv.ofParts (e1 ▸ hlt) ?_ ⟨e3 ▸ ht.1, e4 ▸ ht.2, ?_, ?_⟩ d2 ?_ ?_ d1 (e6 ▸ h.mem_wf) (e6 ▸ h.mem_ram)
  · rw [e1, e2, hly]
  · rw [e1, e3, ← hcyc]; exact ht.3
  · rw [e1, e4, e5, ← hcyc]; exact ht.4
  · rw [e2]; exact d3.trans m3
  · rw [e2, e1]
    intro hl
    rw [← hcyc]
    exact d4.trans (m4 hl)

theorem ticks_inv (n : Nat) {u : Units} (h : u.Inv) : (ticks n u).Inv := by
  induction n generalizing u with
  | zero => exact h
  | succ n ih => exact ih (tick_inv h)

/-! ## Requests and bus writes keep the invariant -/

/-- What the invariant does not look at may change. -/
theorem Units.Inv.ofSame {u v : Units} (h : u.Inv) (hc : v.cycles = u.cycles) (hly : v.timer.ly = u.timer.ly)
    (hd : v.timer.nextDIVCycle = u.timer.nextDIVCycle) (ht : v.timer.nextTIMACycle = u.timer.nextTIMACycle)
    (hk : v.timer.tac = u.timer.tac) (hv : v.bus.vramBlocked = u.bus.vramBlocked)
    (ho : v.bus.oamBlocked = u.bus.oamBlocked) (hm : v.ppu.mode = u.ppu.mode)
    (hr : v.ppu.frameReady = u.ppu.frameReady) (hb : v.ppu.Bounds) (hw : Memory.wf v.bus.mem = true)
    (hi : Memory.inRam v.bus.mem = true) : v.Inv := by
  refine Units.Inv.ofParts (hc ▸ h.cycles_lt) ?_ ⟨hd ▸ h.nextDIV_lt, ht ▸ h.nextTIMA_lt, ?_, ?_⟩ ⟨?_, ?_, ?_⟩ ?_ ?_ hb hw hi
  · rw [hc, hly]; exact h.ly_eq
  · rw [hc, hd]; exact h.div_ahead
  · rw [hc, ht, hk]; exact h.tima_ahead
  · rw [hv, hm]; exact h.vram_blocked
  · rw [ho, hm]; exact h.oam_blocked
  · rw [hr, hm]; exact h.ready_iff
  · rw [hm, hly]; exact h.vblank_iff
  · rw [hm, hly, hc]; exact h.scan_iff

theorem requestInterrupt_inv (k : Nat) {u : Units} (h : u.Inv) : (requestInterrupt k u).Inv :=
  h.ofSame rfl rfl rfl rfl rfl rfl rfl rfl rfl h.bounds h.mem_wf h.mem_ram

theorem writeTAC_inv (v : Byte) {u : Units} (h : u.Inv) : (writeTAC v u).Inv := by
  have hb := timaPeriod_bounds (v.setWidth 3)
  have hf := ticksUntil_fresh h.cycles_lt hb.2
  unfold writeTAC
  dsimp only
  split
  · exact Units.Inv.ofParts h.cycles_lt h.ly_eq
      ⟨h.nextDIV_lt, Nat.mod_lt _ (by decide), h.div_ahead, fun _ => ⟨by dsimp only; rw [hf]; omega, by dsimp only; rw [hf]⟩⟩
      ⟨h.vram_blocked, h.oam_blocked, h.ready_iff⟩ h.vblank_iff h.scan_iff h.bounds h.mem_wf h.mem_ram
  · rename_i hn
    refine Units.Inv.ofParts h.cycles_lt h.ly_eq ⟨h.nextDIV_lt, h.nextTIMA_lt, h.div_ahead, fun hen => ?_⟩
      ⟨h.vram_blocked, h.oam_blocked, h.ready_iff⟩ h.vblank_iff h.scan_iff h.bounds h.mem_wf h.mem_ram
    have hen' : tacEnabled (v.setWidth 3) = true := hen
    have hsame : ¬ (tacEnabled u.timer.tac = false ∨ u.timer.tac.toNat % 4 ≠ (BitVec.setWidth 3 v).toNat % 4) :=
      fun e => hn ⟨hen', e⟩
    rw [not_or, not_not] at hsame
    have hold : tacEnabled u.timer.tac = true := by simpa using hsame.1
    have hp : timaPeriod (v.setWidth 3) = timaPeriod u.timer.tac := by simp only [timaPeriod, hsame.2]
    dsimp only
    rw [hp]
    exact h.tima_ahead hold

theorem storeRam_inv {k : Nat} (v : Byte) {u : Units} (h : u.Inv) (hk : ramKey k = some k) : (storeRam k v u).Inv :=
  h.ofSame rfl rfl rfl rfl rfl rfl rfl rfl rfl h.bounds (Memory.wf_write k v h.mem_wf)
    (Memory.inRam_write v h.mem_ram hk)

theorem ioWrite_inv (v : Byte) {u : Units} (h : u.Inv) (r : IoReg) : (ioWrite v u r).Inv := by
  have hb := h.bounds
  have hb' : ∀ p : Ppu, p.bgFifo = u.ppu.bgFifo → p.spriteFifo = u.ppu.spriteFifo → p.scan = u.ppu.scan →
      p.lcdX = u.ppu.lcdX → p.discard = u.ppu.discard → p.stall = u.ppu.stall →
      p.pendingSprite = u.ppu.pendingSprite → p.lcd = u.ppu.lcd → p.Bounds := by
    intro p a1 a2 a3 a4 a5 a6 a7 a8
    exact ⟨a1 ▸ hb.1, a2 ▸ hb.2, a3 ▸ hb.3, a3 ▸ hb.4, a4 ▸ hb.5, a5 ▸ hb.6, a6 ▸ hb.7, by rw [a6, a7]; exact hb.8,
      a7 ▸ hb.9, a8 ▸ hb.10, a8 ▸ hb.11⟩
  have same : ∀ w : Units, w.cycles = u.cycles → w.timer.ly = u.timer.ly →
      w.timer.nextDIVCycle = u.timer.nextDIVCycle → w.timer.nextTIMACycle = u.timer.nextTIMACycle →
      w.timer.tac = u.timer.tac → w.bus.vramBlocked = u.bus.vramBlocked → w.bus.oamBlocked = u.bus.oamBlocked →
      w.ppu.mode = u.ppu.mode → w.ppu.frameReady = u.ppu.frameReady → w.ppu.Bounds → w.bus.mem = u.bus.mem → w.Inv :=
    fun w a1 a2 a3 a4 a5 a6 a7 a8 a9 a10 a11 =>
      h.ofSame a1 a2 a3 a4 a5 a6 a7 a8 a9 a10 (a11 ▸ h.mem_wf) (a11 ▸ h.mem_ram)
  cases r with
  | joyp => exact same _ rfl rfl rfl rfl rfl rfl rfl rfl rfl hb rfl
  | div => exact same _ rfl rfl rfl rfl rfl rfl rfl rfl rfl hb rfl
  | tima => exact same _ rfl rfl rfl rfl rfl rfl rfl rfl rfl hb rfl
  | tma => exact same _ rfl rfl rfl rfl rfl rfl rfl rfl rfl hb rfl
  | tac => exact writeTAC_inv v h
  | intFlag => exact same _ rfl rfl rfl rfl rfl rfl rfl rfl rfl hb rfl
  | lcdc => exact same _ rfl rfl rfl rfl rfl rfl rfl rfl rfl (hb' _ rfl rfl rfl rfl rfl rfl rfl rfl) rfl
  | stat => exact same _ rfl rfl rfl rfl rfl rfl rfl rfl rfl (hb' _ rfl rfl rfl rfl rfl rfl rfl rfl) rfl
  | scy => exact same _ rfl rfl rfl rfl rfl rfl rfl rfl rfl (hb' _ rfl rfl rfl rfl rfl rfl rfl rfl) rfl
  | scx => exact same _ rfl rfl rfl rfl rfl rfl rfl rfl rfl (hb' _ rfl rfl rfl rfl rfl rfl rfl rfl) rfl
  | ly => exact h
  | lyc => exact same _ rfl rfl rfl rfl rfl rfl rfl rfl rfl hb rfl
  | bgp => exact same _ rfl rfl rfl rfl rfl rfl rfl rfl rfl (hb' _ rfl rfl rfl rfl rfl rfl rfl rfl) rfl
  | obp0 => exact same _ rfl rfl rfl rfl rfl rfl rfl rfl rfl (hb' _ rfl rfl rfl rfl rfl rfl rfl rfl) rfl
  | obp1 => exact same _ rfl rfl rfl rfl rfl rfl rfl rfl rfl (hb' _ rfl rfl rfl rfl rfl rfl rfl rfl) rfl
  | bank =>
    show Units.Inv (if u.bus.bank = 0#8 then { u with bus := { u.bus with bank := v } } else u)
    split
    · exact same _ rfl rfl rfl rfl rfl rfl rfl rfl rfl hb rfl
    · exact h

/-- The region of an address bounds the address (R72). -/
theorem region_bounds (a : Nat) (bank : Byte) :
    match region a bank with
    | .bootOverlay => a ≤ 0xFF
    | .rom0 => a ≤ 0x3FFF
    | .rom1 => 0x4000 ≤ a ∧ a ≤ 0x7FFF
    | .vram => 0x8000 ≤ a ∧ a ≤ 0x9FFF
    | .extRam => 0xA000 ≤ a ∧ a ≤ 0xBFFF
    | .wram => 0xC000 ≤ a ∧ a ≤ 0xDFFF
    | .echo => 0xE000 ≤ a ∧ a ≤ 0xFDFF
    | .oam => 0xFE00 ≤ a ∧ a ≤ 0xFE9F
    | .unusable => 0xFEA0 ≤ a ∧ a ≤ 0xFEFF
    | .io => 0xFF00 ≤ a ∧ a ≤ 0xFF7F
    | .hram => 0xFF80 ≤ a ∧ a ≤ 0xFFFE
    | .ie => 0xFFFE < a := by
  unfold region
  by_cases h0 : a ≤ 0x00FF ∧ bank = 0x00#8
  · rw [if_pos h0]; exact h0.1
  rw [if_neg h0]
  by_cases h1 : a ≤ 0x3FFF
  · rw [if_pos h1]; dsimp only; omega
  rw [if_neg h1]
  by_cases h2 : a ≤ 0x7FFF
  · rw [if_pos h2]; dsimp only; omega
  rw [if_neg h2]
  by_cases h3 : a ≤ 0x9FFF
  · rw [if_pos h3]; dsimp only; omega
  rw [if_neg h3]
  by_cases h4 : a ≤ 0xBFFF
  · rw [if_pos h4]; dsimp only; omega
  rw [if_neg h4]
  by_cases h5 : a ≤ 0xDFFF
  · rw [if_pos h5]; dsimp only; omega
  rw [if_neg h5]
  by_cases h6 : a ≤ 0xFDFF
  · rw [if_pos h6]; dsimp only; omega
  rw [if_neg h6]
  by_cases h7 : a ≤ 0xFE9F
  · rw [if_pos h7]; dsimp only; omega
  rw [if_neg h7]
  by_cases h8 : a ≤ 0xFEFF
  · rw [if_pos h8]; dsimp only; omega
  rw [if_neg h8]
  by_cases h9 : a ≤ 0xFF7F
  · rw [if_pos h9]; dsimp only; omega
  rw [if_neg h9]
  by_cases h10 : a ≤ 0xFFFE
  · rw [if_pos h10]; dsimp only; omega
  rw [if_neg h10]
  dsimp only; omega

/-- What a bus write does to the units: nothing, a write to the cartridge, a store to the internal memory byte its address reaches, a write of an
I/O register, or a write of IE (R75). -/
theorem busWrite_cases (cfg : Config) (addr : Word) (v : Byte) (u : Units) :
    busWrite cfg addr v u = u ∨
      ((addr.toNat ≤ 0x7FFF ∨ 0xA000 ≤ addr.toNat ∧ addr.toNat ≤ 0xBFFF) ∧ busWrite cfg addr v u = storeCart cfg addr v u) ∨
      (∃ k, ramKey addr.toNat = some k ∧ busWrite cfg addr v u = storeRam k v u) ∨
      (∃ r, 0xFF00 ≤ addr.toNat ∧ addr.toNat ≤ 0xFF7F ∧ implementedAt cfg addr.toNat = some r ∧
        busWrite cfg addr v u = ioWrite v u r) ∨
      (addr.toNat = 0xFFFF ∧ busWrite cfg addr v u = { u with timer := { u.timer with intEnable := v } }) := by
  have hb := region_bounds addr.toNat u.bus.bank
  have hk : ∀ a : Nat, (0x8000 ≤ a ∧ a ≤ 0x9FFF ∨ 0xC000 ≤ a ∧ a ≤ 0xDFFF ∨ 0xFE00 ≤ a ∧ a ≤ 0xFE9F ∨
      0xFF80 ≤ a ∧ a ≤ 0xFFFE) → ramKey a = some a := by
    intro a h
    unfold ramKey
    repeat' split
    all_goals first
      | omega
      | rfl
  have he : ∀ a : Nat, 0xE000 ≤ a ∧ a ≤ 0xFDFF → ramKey a = some (a - 0x2000) := by
    intro a h
    unfold ramKey
    repeat' split
    all_goals first
      | omega
      | rfl
  unfold busWrite
  dsimp only
  generalize region addr.toNat u.bus.bank = r at hb ⊢
  cases r <;> dsimp only at hb ⊢
  · exact .inr (.inl ⟨.inl (by omega), rfl⟩)
  · exact .inr (.inl ⟨.inl (by omega), rfl⟩)
  · exact .inr (.inl ⟨.inl hb.2, rfl⟩)
  · split
    · exact .inl rfl
    · exact .inr (.inr (.inl ⟨_, hk _ (.inl hb), rfl⟩))
  · split
    · exact .inr (.inl ⟨.inr hb, rfl⟩)
    · exact .inl rfl
  · exact .inr (.inr (.inl ⟨_, hk _ (.inr (.inl hb)), rfl⟩))
  · exact .inr (.inr (.inl ⟨_, he _ hb, rfl⟩))
  · split
    · exact .inl rfl
    · exact .inr (.inr (.inl ⟨_, hk _ (.inr (.inr (.inl hb))), rfl⟩))
  · exact .inl rfl
  · split
    · rename_i r hr
      exact .inr (.inr (.inr (.inl ⟨r, hb.1, hb.2, hr, rfl⟩)))
    · exact .inl rfl
  · exact .inr (.inr (.inl ⟨_, hk _ (.inr (.inr (.inr hb))), rfl⟩))
  · exact .inr (.inr (.inr (.inr ⟨by have := addr.isLt; omega, rfl⟩)))

/-- A write to the cartridge keeps the invariant of the units. -/
theorem storeCart_inv (cfg : Config) (addr : Word) (v : Byte) {u : Units} (h : u.Inv) : (storeCart cfg addr v u).Inv :=
  h.ofSame rfl rfl rfl rfl rfl rfl rfl rfl rfl h.bounds h.mem_wf h.mem_ram

/-- A bus write keeps the invariant of the units. -/
theorem busWrite_inv (cfg : Config) (addr : Word) (v : Byte) {u : Units} (h : u.Inv) :
    (busWrite cfg addr v u).Inv := by
  obtain e | ⟨-, e⟩ | ⟨k, hk, e⟩ | ⟨r, -, -, -, e⟩ | ⟨-, e⟩ := busWrite_cases cfg addr v u <;> rw [e]
  · exact h
  · exact storeCart_inv cfg addr v h
  · exact storeRam_inv v h (ramKey_idem hk)
  · exact ioWrite_inv v h r
  · exact h.ofSame rfl rfl rfl rfl rfl rfl rfl rfl rfl h.bounds h.mem_wf h.mem_ram

theorem writeTAC_cycles (v : Byte) (u : Units) : (writeTAC v u).cycles = u.cycles := by
  unfold writeTAC; dsimp only; split <;> rfl

theorem ioWrite_cycles (v : Byte) (u : Units) (r : IoReg) : (ioWrite v u r).cycles = u.cycles := by
  cases r <;> first | rfl | exact writeTAC_cycles v u | skip
  show Units.cycles (if u.bus.bank = 0#8 then { u with bus := { u.bus with bank := v } } else u) = _
  split <;> rfl

/-- A bus write moves no time (R73). -/
@[simp] theorem busWrite_cycles (cfg : Config) (addr : Word) (v : Byte) (u : Units) :
    (busWrite cfg addr v u).cycles = u.cycles := by
  obtain e | ⟨-, e⟩ | ⟨k, -, e⟩ | ⟨r, -, -, -, e⟩ | ⟨-, e⟩ := busWrite_cases cfg addr v u <;> rw [e]
  · rfl
  · rfl
  · exact ioWrite_cycles v u r

theorem ioWrite_frameDone (v : Byte) (u : Units) (r : IoReg) : (ioWrite v u r).frameDone = u.frameDone := by
  cases r <;> first | rfl | skip
  · unfold ioWrite writeTAC; dsimp only; split <;> rfl
  · show Units.frameDone (if u.bus.bank = 0#8 then { u with bus := { u.bus with bank := v } } else u) = _
    split <;> rfl

@[simp] theorem busWrite_frameDone (cfg : Config) (addr : Word) (v : Byte) (u : Units) :
    (busWrite cfg addr v u).frameDone = u.frameDone := by
  obtain e | ⟨-, e⟩ | ⟨k, -, e⟩ | ⟨r, -, -, -, e⟩ | ⟨-, e⟩ := busWrite_cases cfg addr v u <;> rw [e]
  · rfl
  · rfl
  · exact ioWrite_frameDone v u r

theorem ioWrite_mem (v : Byte) (u : Units) (r : IoReg) : (ioWrite v u r).bus.mem = u.bus.mem := by
  cases r <;> first | rfl | skip
  · unfold ioWrite writeTAC; dsimp only; split <;> rfl
  · show Bus.mem (Units.bus (if u.bus.bank = 0#8 then { u with bus := { u.bus with bank := v } } else u)) = _
    split <;> rfl

/-- A bus write leaves every internal memory byte but the one its address reaches. -/
theorem busWrite_read_other (cfg : Config) (addr : Word) (v : Byte) (u : Units) {k : Nat}
    (h : ramKey addr.toNat ≠ some k) :
    Memory.read (busWrite cfg addr v u).bus.mem k = Memory.read u.bus.mem k := by
  obtain e | ⟨-, e⟩ | ⟨j, hj, e⟩ | ⟨r, -, -, -, e⟩ | ⟨-, e⟩ := busWrite_cases cfg addr v u <;> rw [e]
  · rfl
  · exact Memory.read_write_other _ v (fun hk => h (hk ▸ hj))
  · rw [ioWrite_mem]

theorem ioWrite_bank (v : Byte) (u : Units) (r : IoReg) :
    (ioWrite v u r).bus.bank = u.bus.bank ∨ u.bus.bank = 0#8 := by
  cases r <;> first | exact .inl rfl | skip
  · unfold ioWrite writeTAC; dsimp only; split <;> exact .inl rfl
  · show Bus.bank (Units.bus (if u.bus.bank = 0#8 then { u with bus := { u.bus with bank := v } } else u)) = _ ∨ _
    split
    · exact .inr ‹_›
    · exact .inl rfl

theorem ioWrite_cart (v : Byte) (u : Units) (r : IoReg) : (ioWrite v u r).bus.cart = u.bus.cart := by
  cases r <;> first | rfl | skip
  · unfold ioWrite writeTAC; dsimp only; split <;> rfl
  · show Bus.cart (Units.bus (if u.bus.bank = 0#8 then { u with bus := { u.bus with bank := v } } else u)) = _
    split <;> rfl

/-- A bus write outside the cartridge's addresses leaves the cartridge alone (R11). -/
theorem busWrite_cart (cfg : Config) (addr : Word) (v : Byte) (u : Units)
    (h : ¬(addr.toNat ≤ 0x7FFF ∨ 0xA000 ≤ addr.toNat ∧ addr.toNat ≤ 0xBFFF)) :
    (busWrite cfg addr v u).bus.cart = u.bus.cart := by
  obtain e | ⟨ha, e⟩ | ⟨k, -, e⟩ | ⟨r, -, -, -, e⟩ | ⟨-, e⟩ := busWrite_cases cfg addr v u <;> rw [e]
  · exact absurd ha h
  · rfl
  · exact ioWrite_cart v u r

/-- A bus write changes BANK only while BANK is 0 (R42). -/
theorem busWrite_bank (cfg : Config) (addr : Word) (v : Byte) (u : Units) (h : u.bus.bank ≠ 0#8) :
    (busWrite cfg addr v u).bus.bank = u.bus.bank := by
  obtain e | ⟨-, e⟩ | ⟨k, -, e⟩ | ⟨r, -, -, -, e⟩ | ⟨-, e⟩ := busWrite_cases cfg addr v u <;> rw [e]
  · rfl
  · rfl
  · exact (ioWrite_bank v u r).resolve_right h

end Sys2Proof.Machine
end

