-- ==== Sys2Proof/Laws/Exec.lean ====
section
/-! SUPPORT. The meaning of an instruction by its form (`exec_eq`), and what every instruction has in common: how the
units evolve (`Form.run_evolves`), what becomes of F's low nibble, of `imePending`, of the host's side and of the
configuration. -/

namespace Sys2Proof

open Machine

/-- The operation of every form. -/
def Form.run (f : Form) (s : State) : State :=
  match f with
  | .ldRegReg dst src => opLdRegReg dst src s
  | .ldRegImm dst n => opLdRegImm dst n s
  | .ldRegHL dst => opLdRegHL dst s
  | .ldHLReg src => opLdHLReg src s
  | .ldHLImm n => opLdHLImm n s
  | .ldABC => opLdABC s
  | .ldADE => opLdADE s
  | .ldBCA => opLdBCA s
  | .ldDEA => opLdDEA s
  | .ldAAbs addr => opLdAAbs addr s
  | .ldAbsA addr => opLdAbsA addr s
  | .ldhAImm n => opLdhAImm n s
  | .ldhImmA n => opLdhImmA n s
  | .ldhAC => opLdhAC s
  | .ldhCA => opLdhCA s
  | .ldIncA => opLdIncA s
  | .ldDecA => opLdDecA s
  | .ldAInc => opLdAInc s
  | .ldADec => opLdADec s
  | .ldPairImm dst nn => opLdPairImm dst nn s
  | .ldAbsSP addr => opLdAbsSP addr s
  | .ldSPHL => opLdSPHL s
  | .ldHLSPe e => opLdHLSPe e s
  | .push src => opPush src s
  | .pop dst => opPop dst s
  | .aluReg op src => opAluReg op src s
  | .aluHL op => opAluHL op s
  | .aluImm op n => opAluImm op n s
  | .incReg r => opIncReg r s
  | .incHL => opIncHL s
  | .decReg r => opDecReg r s
  | .decHL => opDecHL s
  | .daa => opDaa s
  | .cpl => opCpl s
  | .scf => opScf s
  | .ccf => opCcf s
  | .addHL src => opAddHL src s
  | .incPair r => opIncPair r s
  | .decPair r => opDecPair r s
  | .addSPe e => opAddSPe e s
  | .rlca => opRlca s
  | .rla => opRla s
  | .rrca => opRrca s
  | .rra => opRra s
  | .shiftReg op r => opShiftReg op r s
  | .shiftHL op => opShiftHL op s
  | .bitReg b r => opBitReg b r s
  | .bitHL b => opBitHL b s
  | .resReg b r => opResReg b r s
  | .resHL b => opResHL b s
  | .setReg b r => opSetReg b r s
  | .setHL b => opSetHL b s
  | .jp addr => opJp addr s
  | .jpCond cc addr => opJpCond cc addr s
  | .jpHL => opJpHL s
  | .jr e => opJr e s
  | .jrCond cc e => opJrCond cc e s
  | .call addr => opCall addr s
  | .callCond cc addr => opCallCond cc addr s
  | .ret => opRet s
  | .retCond cc => opRetCond cc s
  | .reti => opReti s
  | .rst y => opRst y s
  | .nop => opNop s
  | .halt => opHalt s
  | .stop pad => opStop pad s
  | .di => opDi s
  | .ei => opEi s
  | .undefined code => opUndefined code s

namespace Machine

/-- The meaning of every instruction is the operation of its form, and it always gives a next state. -/
theorem exec_eq (i : Instr) (s : State) : exec i s = .next (i.form.run s) := by cases i <;> rfl

/-! ## How the units evolve -/

/-- The units after `n` machine cycles from `u` on, each of them four ticks, some of them followed by a bus write. -/
inductive Evolves (cfg : Config) (u : Units) : Nat → Units → Prop where
  | refl : Evolves cfg u 0 u
  | idle {n : Nat} {v : Units} : Evolves cfg u n v → Evolves cfg u (n + 1) (ticks 4 v)
  | write {n : Nat} {v : Units} (addr : Word) (b : Byte) :
      Evolves cfg u n v → Evolves cfg u (n + 1) (busWrite cfg addr b (ticks 4 v))

theorem Evolves.trans {cfg : Config} {m n : Nat} {u v w : Units} (h : Evolves cfg u m v) (k : Evolves cfg v n w) :
    Evolves cfg u (m + n) w := by
  induction k with
  | refl => exact h
  | idle _ ih => exact ih.idle
  | write a b _ ih => exact ih.write a b

theorem Evolves.inv {cfg : Config} {n : Nat} {u v : Units} (h : Evolves cfg u n v) (hu : u.Inv) : v.Inv := by
  induction h with
  | refl => exact hu
  | idle _ ih => exact ticks_inv 4 ih
  | write a b _ ih => exact busWrite_inv cfg a b (ticks_inv 4 ih)

theorem Evolves.cycles {cfg : Config} {n : Nat} {u v : Units} (h : Evolves cfg u n v) (hu : u.cycles < frameCycles) :
    v.cycles = (u.cycles + 4 * n) % frameCycles := by
  induction h with
  | refl => exact (Nat.mod_eq_of_lt hu).symm
  | idle _ ih =>
    rw [ticks_cycles 4 _ (by rw [ih]; exact Nat.mod_lt _ (by decide)), ih, Nat.mod_add_mod]
    congr 1
  | write a b _ ih =>
    rw [busWrite_cycles, ticks_cycles 4 _ (by rw [ih]; exact Nat.mod_lt _ (by decide)), ih, Nat.mod_add_mod]
    congr 1

/-- `frameDone` stays set, and is set by machine cycles that wrap the counter (R73). -/
theorem Evolves.frameDone {cfg : Config} {n : Nat} {u v : Units} (h : Evolves cfg u n v) (hu : u.cycles < frameCycles)
    (hn : 4 * n < frameCycles) : v.frameDone = (u.frameDone || decide (v.cycles < u.cycles)) := by
  have key : ∀ {m : Nat} {v : Units}, 4 * m + 4 < frameCycles → v.cycles = (u.cycles + 4 * m) % frameCycles →
      v.frameDone = (u.frameDone || decide (v.cycles < u.cycles)) →
      (ticks 4 v).frameDone = (u.frameDone || decide ((ticks 4 v).cycles < u.cycles)) := by
    intro m v hm hv ih
    rw [ticks_frameDone 4 v (hv ▸ Nat.mod_lt _ (by decide)) (by decide), ih,
      ticks_cycles 4 v (hv ▸ Nat.mod_lt _ (by decide)), Bool.or_assoc, ← Bool.decide_or]
    congr 2
    simp only [frameCycles] at *
    exact propext (by omega)
  induction h with
  | refl => simp
  | idle k ih => exact key hn (k.cycles hu) (ih (by omega))
  | write a b k ih => rw [busWrite_frameDone, busWrite_cycles]; exact key hn (k.cycles hu) (ih (by omega))

theorem Evolves.bank {cfg : Config} {n : Nat} {u v : Units} (h : Evolves cfg u n v) (hu : u.bus.bank ≠ 0#8) :
    v.bus.bank = u.bus.bank := by
  induction h with
  | refl => rfl
  | idle _ ih => rw [ticks_bank, ih]
  | write a b _ ih => rw [busWrite_bank cfg a b _ (by rw [ticks_bank, ih]; exact hu), ticks_bank, ih]

/-- The machine cycles of an instruction after its bytes were fetched. -/
def tailCycles (f : Form) (c : Cpu) : Nat := f.cost (f.taken c) / 4 - f.length

/-- An instruction takes the units through its machine cycles (R510), whatever it computes. -/
theorem run_evolves (f : Form) (s : State) : Evolves s.cfg s.units (tailCycles f s.cpu) (f.run s).units := by
  have e0 := Evolves.refl (cfg := s.cfg) (u := s.units)
  have e1 := e0.idle
  have e2 := e1.idle
  cases f with
  | jpCond cc addr | jrCond cc e | callCond cc addr | retCond cc =>
    by_cases h : s.cpu.holds cc = true <;>
    simp only [tailCycles, Form.taken, Form.cost, Form.run, Form.length, opJpCond, opJrCond, opCallCond, opRetCond, h,
      if_true] <;>
    first
    | exact e0
    | exact e1
    | exact (e1.write _ _).write _ _
    | exact (e2.idle).idle
  | ei =>
    have : (opEi s).units = s.units := by unfold opEi; split <;> rfl
    simp only [tailCycles, Form.cost, Form.length, Form.run, this]
    exact e0
  | ldRegReg | ldRegImm | ldPairImm | aluReg | aluImm | incReg | decReg | daa | cpl | scf | ccf | rlca | rla | rrca
  | rra | shiftReg | bitReg | resReg | setReg | jpHL | nop | halt | stop | di | undefined =>
    simp only [tailCycles, Form.cost, Form.length]
    exact e0
  | ldRegHL | ldABC | ldADE | ldAAbs | ldhAImm | ldhAC | ldAInc | ldADec | ldSPHL | ldHLSPe | aluHL | addHL
  | incPair | decPair | bitHL | jp | jr =>
    simp only [tailCycles, Form.cost, Form.length]
    exact e1
  | ldHLReg | ldHLImm | ldBCA | ldDEA | ldAbsA | ldhImmA | ldhCA | ldIncA | ldDecA =>
    simp only [tailCycles, Form.cost, Form.length]
    exact e0.write _ _
  | pop | addSPe =>
    simp only [tailCycles, Form.cost, Form.length]
    exact e2
  | incHL | decHL | shiftHL | resHL | setHL =>
    simp only [tailCycles, Form.cost, Form.length]
    exact e1.write _ _
  | ldAbsSP =>
    simp only [tailCycles, Form.cost, Form.length]
    exact (e0.write _ _).write _ _
  | push | call | rst =>
    simp only [tailCycles, Form.cost, Form.length]
    exact (e1.write _ _).write _ _
  | ret | reti =>
    simp only [tailCycles, Form.cost, Form.length]
    exact e2.idle

/-! ## What all instructions leave alone -/

@[simp] theorem run_cfg (f : Form) (s : State) : (f.run s).cfg = s.cfg := by
  cases f with
  | jpCond cc addr | jrCond cc e | callCond cc addr | retCond cc =>
    simp only [Form.run, opJpCond, opJrCond, opCallCond, opRetCond]; split <;> rfl
  | ei => show (opEi s).cfg = _; unfold opEi; split <;> rfl
  | _ => rfl

/-- Only an undefined opcode tells the host anything (R341). -/
theorem run_outside (f : Form) (s : State) :
    (f.run s).outside = match f with
      | .undefined code => { s.outside with outcome := some (.unknownOpcode code) }
      | _ => s.outside := by
  cases f with
  | jpCond cc addr | jrCond cc e | callCond cc addr | retCond cc =>
    simp only [Form.run, opJpCond, opJrCond, opCallCond, opRetCond]; split <;> rfl
  | ei => show (opEi s).outside = _; unfold opEi; split <;> rfl
  | _ => rfl

theorem setReg_f_low {c : Cpu} (r : Reg8) (v : Byte) (h : c.f &&& 0x0F#8 = 0#8) : (c.setReg r v).f &&& 0x0F#8 = 0#8 := by
  rw [Cpu.setReg_f]; exact h

/-- Every instruction keeps F's low nibble zero (R25). -/
theorem run_flags_low (f : Form) {s : State} (h : s.cpu.f &&& 0x0F#8 = 0#8) :
    (f.run s).cpu.f &&& 0x0F#8 = 0#8 := by
  have hk : ∀ z n k c : Bool, packFlags z n k c &&& 0x0F#8 = 0#8 := packFlags_low
  cases f with
  | jpCond cc addr | jrCond cc e | callCond cc addr | retCond cc =>
    simp only [Form.run, opJpCond, opJrCond, opCallCond, opRetCond]; split <;> exact h
  | ei => show (opEi s).cpu.f &&& _ = _; unfold opEi; split <;> exact h
  | ldPairImm p n | incPair p | decPair p => cases p <;> exact h
  | pop q => cases q <;> first | exact h | exact maskFlags_low _
  | ldRegReg r | ldRegImm r | ldRegHL r | resReg _ r | setReg _ r => exact setReg_f_low r _ h
  | _ => first
    | exact h
    | exact hk _ _ _ _

/-- `imePending` is set by EI alone, and only with `EI_DELAY` = 1 (R27, R328). -/
theorem run_pending (f : Form) {s : State} (h : s.cfg.eiDelay = false) (hp : s.cpu.imePending = false) :
    (f.run s).cpu.imePending = false := by
  cases f with
  | jpCond cc addr | jrCond cc e | callCond cc addr | retCond cc =>
    simp only [Form.run, opJpCond, opJrCond, opCallCond, opRetCond]; split <;> exact hp
  | ei => show (opEi s).cpu.imePending = _; unfold opEi; rw [h]; exact hp
  | ldPairImm p n | incPair p | decPair p => cases p <;> exact hp
  | pop q => cases q <;> exact hp
  | ldRegReg r | ldRegImm r | ldRegHL r | resReg _ r | setReg _ r | incReg r | decReg r | shiftReg _ r =>
    exact (Cpu.setReg_imePending _ r _).trans hp
  | _ => first
    | exact hp
    | rfl

/-! ## Instructions and forms -/

/-- Every form is the form of its instruction. -/
@[simp] theorem form_instr (f : Form) : f.instr.form = f := by
  cases f with
  | ldRegReg x y => cases x <;> cases y <;> rfl
  | aluReg x y => cases x <;> cases y <;> rfl
  | shiftReg x y => cases x <;> cases y <;> rfl
  | ldRegImm x | ldRegHL x | ldHLReg x | ldPairImm x | push x | pop x | aluHL x | aluImm x | incReg x | decReg x
  | addHL x | incPair x | decPair x | shiftHL x | jpCond x | jrCond x | callCond x | retCond x => cases x <;> rfl
  | bitReg k r => revert k; cases r <;> decide
  | resReg k r => revert k; cases r <;> decide
  | setReg k r => revert k; cases r <;> decide
  | bitHL k => revert k; decide
  | resHL k => revert k; decide
  | setHL k => revert k; decide
  | rst b => revert b; decide
  | _ => rfl

/-- The length of a form's encoding is its format's (R120). -/
theorem instr_length (f : Form) : f.instr.length = f.length := by
  cases f with
  | ldRegReg x y => cases x <;> cases y <;> rfl
  | aluReg x y => cases x <;> cases y <;> rfl
  | shiftReg x y => cases x <;> cases y <;> rfl
  | ldRegImm x | ldRegHL x | ldHLReg x | ldPairImm x | push x | pop x | aluHL x | aluImm x | incReg x | decReg x
  | addHL x | incPair x | decPair x | shiftHL x | jpCond x | jrCond x | callCond x | retCond x => cases x <;> rfl
  | bitReg k r => revert k; cases r <;> decide
  | resReg k r => revert k; cases r <;> decide
  | setReg k r => revert k; cases r <;> decide
  | bitHL k => revert k; decide
  | resHL k => revert k; decide
  | setHL k => revert k; decide
  | rst b => revert b; decide
  | _ => rfl

end Machine
end Sys2Proof
end

