-- ==== Sys2Proof/Laws/Bus.lean ====
section
/-! SUPPORT. The transfers of WRAM, its echo and HRAM, which nothing ever blocks (R83, R84, R88), what the operations of
Ops.lean leave of the internal memories, and the cartridge. -/

namespace Sys2Proof.Machine

/-- `addr` reaches byte `k` of WRAM or HRAM, directly or through the echo. -/
def ReachesRam (addr k : Nat) : Prop :=
  (0xC000 ≤ addr ∧ addr ≤ 0xDFFF ∧ k = addr) ∨ (0xE000 ≤ addr ∧ addr ≤ 0xFDFF ∧ k = addr - 0x2000) ∨
    (0xFF80 ≤ addr ∧ addr ≤ 0xFFFE ∧ k = addr)

theorem region_wram {a : Nat} (bank : Byte) (h : 0xC000 ≤ a) (h' : a ≤ 0xDFFF) : region a bank = .wram := by
  unfold region
  repeat' split
  all_goals first
    | rfl
    | omega

theorem region_echo {a : Nat} (bank : Byte) (h : 0xE000 ≤ a) (h' : a ≤ 0xFDFF) : region a bank = .echo := by
  unfold region
  repeat' split
  all_goals first
    | rfl
    | omega

theorem region_io {a : Nat} (bank : Byte) (h : 0xFF00 ≤ a) (h' : a ≤ 0xFF7F) : region a bank = .io := by
  unfold region
  repeat' split
  all_goals first
    | rfl
    | omega

theorem region_hram {a : Nat} (bank : Byte) (h : 0xFF80 ≤ a) (h' : a ≤ 0xFFFE) : region a bank = .hram := by
  unfold region
  repeat' split
  all_goals first
    | rfl
    | omega

theorem busRead_ram {addr : Word} {k : Nat} (cfg : Config) (latch : InputLatch) (u : Units)
    (h : ReachesRam addr.toNat k) : busRead cfg latch u addr = Memory.read u.bus.mem k := by
  obtain ⟨h1, h2, hk⟩ | ⟨h1, h2, hk⟩ | ⟨h1, h2, hk⟩ := h <;> rw [hk] <;> unfold busRead <;> dsimp only
  · rw [region_wram _ h1 h2]
  · rw [region_echo _ h1 h2]
  · rw [region_hram _ h1 h2]

theorem busWrite_ram {addr : Word} {k : Nat} (cfg : Config) (v : Byte) (u : Units) (h : ReachesRam addr.toNat k) :
    busWrite cfg addr v u = storeRam k v u := by
  obtain ⟨h1, h2, hk⟩ | ⟨h1, h2, hk⟩ | ⟨h1, h2, hk⟩ := h <;> rw [hk] <;> unfold busWrite <;> dsimp only
  · rw [region_wram _ h1 h2]
  · rw [region_echo _ h1 h2]
  · rw [region_hram _ h1 h2]

theorem readByte_ram {addr : Word} {k : Nat} (s : State) (h : ReachesRam addr.toNat k) :
    s.readByte addr = Memory.read s.units.bus.mem k := by
  show busRead s.cfg s.outside.latch (ticks 4 s.units) addr = _
  rw [busRead_ram _ _ _ h, ticks_mem]

@[simp] theorem idle_mem (s : State) : s.idle.units.bus.mem = s.units.bus.mem := ticks_mem 4 s.units

theorem writeByte_mem {addr : Word} {k : Nat} (v : Byte) (s : State) (h : ReachesRam addr.toNat k) :
    (s.writeByte addr v).units.bus.mem = Memory.write s.units.bus.mem k v := by
  show (busWrite s.cfg addr v (ticks 4 s.units)).bus.mem = _
  rw [busWrite_ram _ _ _ h]
  show Memory.write (ticks 4 s.units).bus.mem k v = _
  rw [ticks_mem]

/-! ## The internal memory byte an address reaches -/

@[simp] theorem ramByte_idle (s : State) (addr : Word) : s.idle.ramByte addr = s.ramByte addr := by
  unfold State.ramByte
  rw [idle_mem]

@[simp] theorem ramByte_mapCpu (g : Cpu → Cpu) (s : State) (addr : Word) :
    (s.mapCpu g).ramByte addr = s.ramByte addr := rfl

/-- A store leaves every internal memory byte but the one its address reaches. -/
theorem ramByte_writeByte {w addr : Word} (v : Byte) (s : State) (h : ramKey w.toNat ≠ ramKey addr.toNat) :
    (s.writeByte w v).ramByte addr = s.ramByte addr := by
  unfold State.ramByte
  cases hk : ramKey addr.toNat with
  | none => rfl
  | some k =>
    have e := busWrite_read_other s.cfg w v (ticks 4 s.units) (hk ▸ h)
    rw [ticks_mem] at e
    exact congrArg some e

/-! ## The cartridge -/

/-- No cartridge and the minimal one take no write (R11, R79). -/
theorem storeCart_fixed {cfg : Config} (addr : Word) (v : Byte) (u : Units)
    (h : cfg.rom = none ∨ cfg.cartridge = .minimal) : storeCart cfg addr v u = u := by
  have : cartWrite cfg addr v u.bus.cart = u.bus.cart := by
    unfold cartWrite
    split
    · rename_i h1 h2
      rw [h1, h2] at h
      simp at h
    · rfl
    · rfl
  show { u with bus := { u.bus with cart := cartWrite cfg addr v u.bus.cart } } = u
  rw [this]

/-- Nor have they enabled external RAM (R82). -/
theorem extRamEnabled_fixed {cfg : Config} (cart : List CartWrite) (h : cfg.rom = none ∨ cfg.cartridge = .minimal) :
    extRamEnabled cfg cart = false := by
  unfold extRamEnabled
  split
  · rename_i h1 h2
    rw [h1, h2] at h
    simp at h
  · rfl
  · rfl

@[simp] theorem cartRead_absent {cfg : Config} (cart : List CartWrite) (r : CartRegion) (o : Nat) (h : cfg.rom = none) :
    cartRead cfg cart r o = 0xFF#8 := by
  unfold cartRead; rw [h]

/-- Any other cartridge takes every write made to it. -/
theorem storeCart_other {cfg : Config} {m : Memory} (addr : Word) (v : Byte) (u : Units) (h : cfg.rom = some m)
    (k : cfg.cartridge = .other) :
    storeCart cfg addr v u = { u with bus := { u.bus with cart := { addr := addr, value := v } :: u.bus.cart } } := by
  unfold storeCart cartWrite; rw [h, k]

/-! ## The stack in WRAM or HRAM -/

@[simp] theorem readByte_mapCpu (g : Cpu → Cpu) (s : State) (addr : Word) :
    (s.mapCpu g).readByte addr = s.readByte addr := rfl

@[simp] theorem callTo_cpu (addr : Word) (s : State) :
    (s.callTo addr).cpu = { s.cpu with sp := s.cpu.sp - 2#16, pc := addr } := by
  have h : (s.callTo addr).cpu = { (s.idle.push16 s.cpu.pc).cpu with pc := addr } := rfl
  rw [h, State.push16_cpu]
  rfl

@[simp] theorem callTo_units (addr : Word) (s : State) : (s.callTo addr).units = (s.idle.push16 s.cpu.pc).units := rfl

@[simp] theorem returnFrom_cpu (s : State) :
    s.returnFrom.cpu = { s.cpu with sp := s.cpu.sp + 2#16, pc := s.popValue } := by
  have h : s.returnFrom.cpu = { s.pop16.cpu with pc := s.popValue } := rfl
  rw [h, State.pop16_cpu]

/-- The processor after the service of interrupt k (R351). -/
@[simp] theorem serviceInterrupt_cpu (k : Nat) (s : State) :
    (s.serviceInterrupt k).cpu =
      { s.cpu with sp := s.cpu.sp - 2#16, ime := false, imePending := false, mode := .running, pc := vector k } := by
  have h : (s.serviceInterrupt k).cpu =
      { (((s.mapCpu fun c => { c with mode := .running }).idle.idle).push16 s.cpu.pc).cpu with
        ime := false, imePending := false, pc := vector k } := rfl
  rw [h, State.push16_cpu]
  rfl

/-- The internal memories after it. -/
theorem serviceInterrupt_mem (k : Nat) (s : State) :
    (s.serviceInterrupt k).units.bus.mem =
      (((s.mapCpu fun c => { c with mode := .running }).idle.idle).push16 s.cpu.pc).units.bus.mem :=
  ticks_mem 4 _

/-- `Push16` stores the two bytes below SP (R18). -/
theorem push16_mem {j k : Nat} (v : Word) (s : State) (hj : ReachesRam (s.cpu.sp - 1#16).toNat j)
    (hk : ReachesRam (s.cpu.sp - 2#16).toNat k) :
    (s.push16 v).units.bus.mem =
      Memory.write (Memory.write s.units.bus.mem j (highByte v)) k (lowByte v) := by
  have e : s.cpu.sp - 1#16 - 1#16 = s.cpu.sp - 2#16 := by bv_omega
  have h1 : (s.pushByte (highByte v)).units.bus.mem = Memory.write s.units.bus.mem j (highByte v) :=
    writeByte_mem _ (s.mapCpu fun c => { c with sp := s.cpu.sp - 1#16 }) hj
  rw [← h1]
  exact writeByte_mem _ (State.mapCpu _ (s.pushByte (highByte v))) (e.symm ▸ hk)

/-- `Pop16` reads the two bytes at SP (R18). -/
theorem popValue_ram {j k : Nat} (s : State) (hj : ReachesRam (s.cpu.sp + 1#16).toNat j)
    (hk : ReachesRam s.cpu.sp.toNat k) :
    s.popValue = hiLo (Memory.read s.units.bus.mem j) (Memory.read s.units.bus.mem k) := by
  show hiLo (s.idle.readByte (s.cpu.sp + 1#16)) (s.readByte s.cpu.sp) = _
  rw [readByte_ram _ hj, readByte_ram _ hk, idle_mem]

/-- What was pushed is popped, whatever else happened that left the memory and SP alone. -/
theorem popValue_of_push16 {j k : Nat} (v : Word) (s t : State) (hw : Memory.wf s.units.bus.mem = true)
    (hj : ReachesRam (s.cpu.sp - 1#16).toNat j) (hk : ReachesRam (s.cpu.sp - 2#16).toNat k) (hne : j ≠ k)
    (hsp : t.cpu.sp = (s.push16 v).cpu.sp) (hm : t.units.bus.mem = (s.push16 v).units.bus.mem) : t.popValue = v := by
  have e : s.cpu.sp - 2#16 + 1#16 = s.cpu.sp - 1#16 := by bv_omega
  rw [State.push16_cpu] at hsp
  rw [popValue_ram t (by rw [hsp, e]; exact hj) (by rw [hsp]; exact hk), hm, push16_mem v s hj hk,
    Memory.read_write_same _ _ (Memory.wf_write _ _ hw), Memory.read_write_other _ _ hne, Memory.read_write_same _ _ hw]
  apply BitVec.eq_of_toNat_eq
  rw [hiLo_toNat, highByte_toNat, lowByte_toNat]
  omega

end Sys2Proof.Machine
end

