-- ==== Sys2Proof/Laws/Step.lean ====
section
/-! SUPPORT. The decoder and the fetch: every byte has an entry, of the length its first byte says; the bytes fetched
are the instruction executed, by whatever dispatch table. Then one iteration of the scheduler as one state (`State.advance`), and what it does to
the units. -/

namespace Sys2Proof

open Machine

/-! ## The decoder -/

/-- An entry gives instructions of its length, none of them undefined but by the first byte. -/
def Entry.Ok : Entry → Prop
  | .one f => f.length = 1 ∧ f.wf = true
  | .two f => ∀ b, (f b).length = 2 ∧ (f b).wf = true
  | .three f => ∀ w, (f w).length = 3 ∧ (f w).wf = true

/-- The same of the entries of more than one byte. -/
def Entry.OkLong : Entry → Prop
  | .one _ => True
  | .two f => ∀ b, (f b).length = 2 ∧ (f b).wf = true
  | .three f => ∀ w, (f w).length = 3 ∧ (f w).wf = true

theorem decodeX0_ok (op : Byte) : (decodeX0 op).Ok := by
  unfold decodeX0
  dsimp only
  repeat' split
  all_goals first
    | exact ⟨rfl, rfl⟩
    | exact fun _ => ⟨rfl, rfl⟩

theorem decodeX1_ok (op : Byte) : (decodeX1 op).Ok := by
  unfold decodeX1
  repeat' split
  all_goals exact ⟨rfl, rfl⟩

theorem decodeX2_ok (op : Byte) : (decodeX2 op).Ok := by
  unfold decodeX2
  repeat' split
  all_goals exact ⟨rfl, rfl⟩

theorem decodeCB_ok (op : Byte) : (decodeCB op).length = 2 ∧ (decodeCB op).wf = true := by
  unfold decodeCB
  dsimp only
  repeat' split
  all_goals exact ⟨rfl, rfl⟩

/-- The base page, x = 3: the one-byte entries by evaluation (the undefined ones are the eleven of R129), the longer ones
by their shape. -/
theorem decodeX3_ok (op : Byte) (hx : fieldX op = 3) : (decodeX3 op).Ok := by
  have hone : ∀ op : Byte, fieldX op = 3 → (match decodeX3 op with
      | .one f => decide (f.length = 1) && f.wf
      | _ => true) = true := by decide
  have h1 := hone op hx
  have h2 : (decodeX3 op).OkLong := by
    unfold decodeX3
    dsimp only
    repeat' split
    all_goals first
      | exact trivial
      | exact fun _ => ⟨rfl, rfl⟩
      | exact decodeCB_ok
  generalize decodeX3 op = e at h1 h2
  cases e with
  | one f => simpa [Entry.Ok] using h1
  | two f => exact h2
  | three f => exact h2

/-- Every first byte has an entry of the length it says (R125). -/
theorem decodeFirst_ok (op : Byte) : (decodeFirst op).Ok := by
  unfold decodeFirst
  split
  · exact decodeX0_ok op
  · exact decodeX1_ok op
  · exact decodeX2_ok op
  · rename_i n0 n1 n2
    refine decodeX3_ok op ?_
    have h := op.isLt
    have h0 : ¬ op.toNat / 64 = 0 := n0
    have h1 : ¬ op.toNat / 64 = 1 := n1
    have h2 : ¬ op.toNat / 64 = 2 := n2
    simp only [fieldX]; omega

/-! ## Decoding by a dispatch table (R8) -/

/-- An undefined opcode of the default tables reports itself (R329). -/
theorem reporting_self (op : Byte) : (decodeFirst op).reporting op = decodeFirst op := by
  have hone : ∀ op : Byte, (match decodeFirst op with
      | .one (.undefined c) => decide (c = op)
      | _ => true) = true := by decide
  have h := hone op
  generalize decodeFirst op = e at h
  unfold Entry.reporting
  split
  · rw [of_decide_eq_true h]
  · rfl

/-- The default table is the tables of files 40 to 46 (R126, R127). -/
theorem first_default (op : Byte) : DispatchTable.default.first op = decodeFirst op := by
  unfold DispatchTable.first
  split
  · rename_i h
    subst h
    rfl
  · show (if op = 0xCB#8 then _ else (decodeFirst op).reporting op) = _
    rw [if_neg ‹_›, reporting_self]

theorem decodeWith_default (bs : List Byte) : decodeWith DispatchTable.default bs = decode bs := by
  match bs with
  | [] => rfl
  | [op] =>
    show (if (decide (op ≠ 0xCB#8) && false) = true then _ else (DispatchTable.default.first op).read []) = _
    rw [Bool.and_false, if_neg (by decide), first_default]
    rfl
  | op :: op2 :: rest =>
    show (if (if op = 0xCB#8 then false else false) = true then _ else
      (DispatchTable.default.first op).read (op2 :: rest)) = _
    rw [ite_self, if_neg (by decide), first_default]
    rfl

/-- An entry's instructions have its length, but for an undefined opcode. -/
def Entry.Fits : Entry → Prop
  | .one f => f.length = 1
  | .two f => ∀ b, (f b).length = 2 ∨ ∃ code, f b = .undefined code
  | .three f => ∀ w, (f w).length = 3

theorem Entry.Ok.fits {e : Entry} (h : e.Ok) : e.Fits := by
  cases e with
  | one f => exact h.1
  | two f => exact fun b => .inl (h b).1
  | three f => exact fun w => (h w).1

theorem Entry.Fits.reporting {e : Entry} (op : Byte) (h : e.Fits) : (e.reporting op).Fits := by
  unfold Entry.reporting
  split
  · rfl
  · exact h

theorem cbForm_fits (t : DispatchTable) (op : Byte) : (t.cbForm op).length = 2 ∨ ∃ code, t.cbForm op = .undefined code := by
  unfold DispatchTable.cbForm
  split
  · exact .inl (decodeCB_ok _).1
  · exact .inr ⟨_, rfl⟩
  · exact .inr ⟨_, rfl⟩

theorem first_fits (t : DispatchTable) (op : Byte) : (t.first op).Fits := by
  unfold DispatchTable.first
  split
  · exact cbForm_fits t
  · split
    · split
      · rfl
      · exact (decodeFirst_ok _).fits.reporting op
    · rfl
    · rfl

/-! ## The fetch -/

namespace Machine

/-- The instruction fetched: the bytes that decode to it, and the state after them. An undefined opcode of the CB page,
which only another dispatch table has, is two bytes long. -/
theorem fetchForm_spec (s : State) :
    ∃ n bs, State.fetchBytes n s = (bs, s.fetchForm.2) ∧ 1 ≤ n ∧
      (n = s.fetchForm.1.length ∨ n = 2 ∧ ∃ code, s.fetchForm.1 = .undefined code) ∧
      (s.cfg.dispatch.selectsOther bs = false → decodeWith s.cfg.dispatch bs = .ok (s.fetchForm.1.instr, [])) := by
  have hfit := first_fits s.cfg.dispatch (s.readByte s.cpu.pc)
  unfold State.fetchForm
  dsimp only
  cases hd : s.cfg.dispatch.first (s.readByte s.cpu.pc) with
  | one f =>
    rw [hd] at hfit
    refine ⟨1, [s.readByte s.cpu.pc], rfl, Nat.le_refl 1, .inl hfit.symm, fun h => ?_⟩
    simp only [decodeWith, h, hd, Entry.read, Bool.false_eq_true, if_false]
  | two f =>
    rw [hd] at hfit
    refine ⟨2, [s.readByte s.cpu.pc, s.fetched.readByte s.fetched.cpu.pc], rfl, by decide,
      (hfit _).imp Eq.symm (fun h => ⟨rfl, h⟩), fun h => ?_⟩
    simp only [decodeWith, h, hd, Entry.read, Bool.false_eq_true, if_false]
  | three f =>
    rw [hd] at hfit
    refine ⟨3, [s.readByte s.cpu.pc, s.fetched.readByte s.fetched.cpu.pc,
      s.fetched.fetched.readByte s.fetched.fetched.cpu.pc], rfl, by decide, .inl (hfit _).symm, fun h => ?_⟩
    simp only [decodeWith, h, hd, Entry.read, Bool.false_eq_true, if_false]

/-- What an entry reads with nothing left over: the bytes after the first are its operands. -/
theorem read_all {e : Entry} {rest : List Byte} {i : Instr} (h : e.read rest = .ok (i, [])) :
    (∃ f, e = .one f ∧ rest = [] ∧ i = f.instr) ∨ (∃ f b, e = .two f ∧ rest = [b] ∧ i = (f b).instr) ∨
      ∃ f lo hi, e = .three f ∧ rest = [lo, hi] ∧ i = (f (hiLo hi lo)).instr := by
  match e, rest, h with
  | .one f, [], h => cases h; exact .inl ⟨f, rfl, rfl, rfl⟩
  | .two f, [b], h => cases h; exact .inr (.inl ⟨f, b, rfl, rfl, rfl⟩)
  | .three f, [lo, hi], h => cases h; exact .inr (.inr ⟨f, lo, hi, rfl, rfl, rfl⟩)

/-- Bytes fetched that decode to one instruction are the instruction `Step()` fetches, and no operation outside the
rules. -/
theorem fetch_decoded {s u : State} {n : Nat} {bs : List Byte} {i : Instr} (hf : State.fetchBytes n s = (bs, u))
    (hd : decodeWith s.cfg.dispatch bs = .ok (i, [])) : s.fetchForm = (i.form, u) ∧ s.otherOperation = none := by
  match n, hf with
  | 0, hf => cases hf; cases hd
  | n + 1, hf =>
    cases hf
    simp only [decodeWith] at hd
    split at hd
    · cases hd
    rename_i ho
    constructor
    · unfold State.fetchForm
      dsimp only
      obtain ⟨f, e, hr, rfl⟩ | ⟨f, b, e, hr, rfl⟩ | ⟨f, lo, hi, e, hr, rfl⟩ := read_all hd
      · match n, hr with
        | 0, _ => rw [e]; dsimp only; rw [form_instr]; rfl
      · match n, hr with
        | 1, hr => rw [e]; dsimp only; rw [form_instr]; cases hr; rfl
      · match n, hr with
        | 2, hr => rw [e]; dsimp only; rw [form_instr]; cases hr; rfl
    · unfold State.otherOperation
      dsimp only
      by_cases hc : s.readByte s.cpu.pc = 0xCB#8
      · rw [if_pos hc]
        match n with
        | 0 => rw [hc] at hd; cases hd
        | n + 1 =>
          have h : ¬ (if s.readByte s.cpu.pc = 0xCB#8 then
            decide (s.cfg.dispatch.cbEntry (s.fetched.readByte s.fetched.cpu.pc) = .other) else _) = true := ho
          rw [if_pos hc] at h
          exact if_neg fun k => h (decide_eq_true k)
      · rw [if_neg hc]
        refine if_neg fun k => ho ?_
        match n with
        | 0 => exact Bool.and_eq_true_iff.2 ⟨decide_eq_true hc, decide_eq_true k⟩
        | n + 1 => exact (if_neg hc).trans (decide_eq_true k)

/-- What a fetch of `n` bytes does to the processor and the units (R18). -/
theorem fetchBytes_spec (n : Nat) (s : State) :
    (State.fetchBytes n s).2.cpu = { s.cpu with pc := s.cpu.pc + BitVec.ofNat 16 n } ∧
      Evolves s.cfg s.units n (State.fetchBytes n s).2.units ∧ (State.fetchBytes n s).2.outside = s.outside ∧
      (State.fetchBytes n s).2.cfg = s.cfg ∧ (State.fetchBytes n s).1.length = n := by
  induction n generalizing s with
  | zero => exact ⟨by simp [State.fetchBytes], .refl, rfl, rfl, rfl⟩
  | succ n ih =>
    obtain ⟨h1, h2, h3, h4, h5⟩ := ih s.fetched
    refine ⟨?_, ?_, h3, h4, by simp [State.fetchBytes, h5]⟩
    · show (State.fetchBytes n s.fetched).2.cpu = _
      rw [h1]
      simp only [State.fetched_cpu, BitVec.add_assoc]
      congr 2
      rw [Nat.add_comm n 1, BitVec.ofNat_add]
    · have e1 : Evolves s.cfg s.units 1 s.fetched.units := Evolves.refl.idle
      have := e1.trans h2
      rwa [Nat.add_comm] at this

/-! ## An operation carried out -/

/-- What a run of `n` machine cycles from `s` to `t` keeps, whatever it computes. -/
structure Ran (s : State) (n : Nat) (t : State) : Prop where
  evolves : Evolves s.cfg s.units n t.units
  cfg : t.cfg = s.cfg
  /-- R25. -/
  flags_low : s.cpu.f &&& 0x0F#8 = 0#8 → t.cpu.f &&& 0x0F#8 = 0#8
  /-- R27. -/
  pending : s.cfg.eiDelay = false → s.cpu.imePending = false → t.cpu.imePending = false

theorem Ran.trans {s t u : State} {m n : Nat} (h : Ran s m t) (k : Ran t n u) : Ran s (m + n) u where
  evolves := h.evolves.trans (h.cfg ▸ k.evolves)
  cfg := k.cfg.trans h.cfg
  flags_low := fun hf => k.flags_low (h.flags_low hf)
  pending := fun hd hp => k.pending (h.cfg ▸ hd) (h.pending hd hp)

theorem Ran.ofFetch (n : Nat) (s : State) : Ran s n (State.fetchBytes n s).2 := by
  obtain ⟨h1, h2, -, h4, -⟩ := fetchBytes_spec n s
  exact ⟨h2, h4, fun h => by rw [h1]; exact h, fun _ h => by rw [h1]; exact h⟩

/-- An instruction runs for its machine cycles after the fetch (R510). -/
theorem Ran.ofRun (f : Form) (s : State) : Ran s (tailCycles f s.cpu) (f.run s) :=
  ⟨run_evolves f s, run_cfg f s, run_flags_low f, run_pending f⟩

/-- A sequence of primitives that no rule describes runs for at most its bound of machine cycles (R476). -/
theorem Ran.ofOther (cb : Bool) (op : Byte) (start : Cpu) (k : Nat) :
    ∀ (past : List (Option Byte)) (s : State), ∃ n, n ≤ k ∧ Ran s n (State.runOther cb op start k past s) := by
  have hfin : ∀ (c : Cpu) (s : State), Ran s 0 (s.finishOther c) := fun c s =>
    ⟨.refl, rfl, fun _ => maskFlags_low _, fun hd _ => by show (s.cfg.eiDelay && c.imePending) = false; rw [hd]; rfl⟩
  have hrefl : ∀ s : State, Ran s 0 s := fun s => ⟨.refl, rfl, id, fun _ h => h⟩
  induction k with
  | zero =>
    intro past s
    refine ⟨0, Nat.le_refl 0, ?_⟩
    unfold State.runOther
    split
    · exact hfin _ s
    all_goals exact hrefl s
  | succ k ih =>
    intro past s
    have hstep : ∀ (past' : List (Option Byte)) (t : State), Ran s 1 t →
        ∃ n, n ≤ k + 1 ∧ Ran s n (State.runOther cb op start k past' t) := fun past' t h => by
      obtain ⟨n, hn, hr⟩ := ih past' t
      exact ⟨1 + n, by omega, h.trans hr⟩
    have hidle : Ran s 1 s.idle := ⟨Evolves.refl.idle, rfl, id, fun _ h => h⟩
    unfold State.runOther
    split
    · exact ⟨0, Nat.zero_le _, hfin _ s⟩
    · exact hstep _ _ hidle
    · exact hstep _ _ ⟨Evolves.refl.idle, rfl, id, fun _ h => h⟩
    · exact hstep _ _ hidle
    · exact hstep _ _ ⟨Evolves.refl.write _ _, rfl, id, fun _ h => h⟩

/-- An operation that no rule describes takes 1 to 6 machine cycles with its fetches (R476). -/
theorem otherOperation_ran {s t : State} (h : s.otherOperation = some t) : ∃ n, 1 ≤ n ∧ n ≤ 6 ∧ Ran s n t := by
  have h1 : Ran s 1 s.fetched := Ran.ofFetch 1 s
  have h2 : Ran s 2 s.fetched.fetched := Ran.ofFetch 2 s
  unfold State.otherOperation at h
  dsimp only at h
  split at h
  · split at h
    · cases h
      obtain ⟨n, hn, hr⟩ := Ran.ofOther true (s.fetched.readByte s.fetched.cpu.pc) s.fetched.fetched.cpu 4 [] s.fetched.fetched
      exact ⟨2 + n, by omega, by omega, h2.trans hr⟩
    · cases h
  · split at h
    · cases h
      obtain ⟨n, hn, hr⟩ := Ran.ofOther false (s.readByte s.cpu.pc) s.fetched.cpu 5 [] s.fetched
      exact ⟨1 + n, by omega, by omega, h1.trans hr⟩
    · cases h

theorem tailCycles_le (f : Form) (c : Cpu) : f.length + tailCycles f c ≤ 6 := by
  unfold tailCycles
  generalize f.taken c = taken
  cases f <;> cases taken <;> simp [Form.length, Form.cost]

/-- The instruction fetched and run takes 1 to 6 machine cycles (R510). -/
theorem instruction_ran (s : State) : ∃ n, 1 ≤ n ∧ n ≤ 6 ∧ Ran s n (s.fetchForm.1.run s.fetchForm.2) := by
  obtain ⟨n, bs, hf, hn, hl, -⟩ := fetchForm_spec s
  have hfetch := Ran.ofFetch n s
  rw [hf] at hfetch
  have hr := hfetch.trans (Ran.ofRun s.fetchForm.1 s.fetchForm.2)
  refine ⟨_, by omega, ?_, hr⟩
  obtain rfl | ⟨rfl, code, hc⟩ := hl
  · exact tailCycles_le _ _
  · rw [hc]
    simp [tailCycles, Form.cost, Form.length]

/-! ## One iteration -/

/-- What `Step()` of an awake processor leaves, before the scheduler goes on. -/
def State.executed (s : State) : State :=
  (s.awake.otherOperation.getD (s.awake.fetchForm.1.run s.awake.fetchForm.2)).finishStep s.eiMatures

/-- `Step()` always completes (R343). -/
theorem cpuStep_eq (s : State) :
    s.cpuStep = .next (if s.asleep then s.idle.report (some .halted) else s.executed) := by
  unfold State.cpuStep State.executed
  split
  · rfl
  · cases s.awake.otherOperation with
    | some t => rfl
    | none =>
      dsimp only
      rw [exec_eq, form_instr]
      rfl

/-- One iteration as one state. -/
def State.advance (s : State) : State :=
  match s.interruptTaken with
  | some k => ((s.serviceInterrupt k).report none).frameEnd
  | none => (if s.asleep then s.idle.report (some .halted) else s.executed).afterStep

/-- A step always gives a next state (R343). -/
theorem step_eq (s : State) : step s = .next s.beginFrame.advance := by
  show s.beginFrame.iteration = _
  unfold State.iteration State.advance
  cases s.beginFrame.interruptTaken with
  | some k => rfl
  | none =>
    dsimp only
    rw [cpuStep_eq]

/-! ## The pieces of an iteration -/

theorem refreshLatch_spec (l : InputLatch) (s : State) :
    (s.refreshLatch l).cpu = s.cpu ∧ (s.refreshLatch l).cfg = s.cfg ∧
      (s.refreshLatch l).outside = { s.outside with latch := l } ∧
      ((s.refreshLatch l).units = s.units ∨ (s.refreshLatch l).units = requestInterrupt 4 s.units) := by
  unfold State.refreshLatch
  dsimp only
  split
  · exact ⟨rfl, rfl, rfl, .inr rfl⟩
  · exact ⟨rfl, rfl, rfl, .inl rfl⟩

/-- The start of a frame touches nothing but the latch and, at most, the joypad request (R367, R475). -/
theorem beginFrame_spec (s : State) :
    s.beginFrame.cpu = s.cpu ∧ s.beginFrame.cfg = s.cfg ∧ s.beginFrame.outside.frameOutcome = s.outside.frameOutcome ∧
      s.beginFrame.outside.hookQueue = s.outside.hookQueue ∧ s.beginFrame.outside.inFrame = true ∧
      (s.beginFrame.units = s.units ∨ s.beginFrame.units = requestInterrupt 4 s.units) := by
  unfold State.beginFrame
  split
  · exact ⟨rfl, rfl, rfl, rfl, ‹_›, .inl rfl⟩
  · dsimp only
    split
    · exact ⟨rfl, rfl, rfl, rfl, rfl, .inl rfl⟩
    · obtain ⟨h1, h2, h3, h4⟩ := refreshLatch_spec ‹_› _
      exact ⟨h1, h2, by rw [h3], by rw [h3], by rw [h3], h4⟩

theorem frameEnd_spec (s : State) :
    s.frameEnd.cpu = s.cpu ∧ s.frameEnd.cfg = s.cfg ∧ s.frameEnd.units = { s.units with frameDone := false } ∧
      s.frameEnd.outside.frameOutcome = (if s.units.frameDone then some .completed else none) := by
  unfold State.frameEnd
  split
  · exact ⟨rfl, rfl, rfl, rfl⟩
  · rename_i h
    refine ⟨rfl, rfl, ?_, rfl⟩
    have : s.units.frameDone = false := by simpa using h
    rw [← this]

@[simp] theorem frameEnd_outcome (s : State) : s.frameEnd.outside.outcome = s.outside.outcome := by
  unfold State.frameEnd
  split <;> rfl

theorem hookConsulted_spec (s : State) :
    s.hookConsulted.cpu = s.cpu ∧ s.hookConsulted.cfg = s.cfg ∧ s.hookConsulted.units = s.units := by
  unfold State.hookConsulted
  split <;> exact ⟨rfl, rfl, rfl⟩

/-- The end of an iteration touches `frameDone` and the host's side alone; `frameDone` survives only an abort (R471,
R472, R474). -/
theorem afterStep_spec (s : State) :
    s.afterStep.cpu = s.cpu ∧ s.afterStep.cfg = s.cfg ∧
      (s.afterStep.units = { s.units with frameDone := false } ∨
        s.afterStep.units = s.units ∧ s.afterStep.outside.frameOutcome = some .abortedByHost) := by
  unfold State.afterStep
  split
  · obtain ⟨h1, h2, h3⟩ := hookConsulted_spec s
    split
    · exact ⟨h1, h2, .inr ⟨h3, rfl⟩⟩
    · obtain ⟨k1, k2, k3, -⟩ := frameEnd_spec s.hookConsulted
      exact ⟨k1.trans h1, k2.trans h2, .inl (by rw [k3, h3])⟩
  · obtain ⟨k1, k2, k3, -⟩ := frameEnd_spec s
    exact ⟨k1, k2, .inl k3⟩

/-- What `RunFrame` returns after a step: by the frame-end check, or, after an undefined opcode alone, by an abort that
leaves `frameDone` as it is (R471, R472, R474). -/
theorem afterStep_frame (s : State) :
    s.afterStep.outside.outcome = s.outside.outcome ∧
      (s.afterStep.units.frameDone = false ∧
          s.afterStep.outside.frameOutcome = (if s.units.frameDone then some .completed else none) ∨
        s.afterStep.units.frameDone = s.units.frameDone ∧ s.afterStep.outside.frameOutcome = some .abortedByHost ∧
          ∃ code, s.outside.outcome = some (.unknownOpcode code)) := by
  have hc : s.hookConsulted.outside.outcome = s.outside.outcome := by unfold State.hookConsulted; split <;> rfl
  obtain ⟨-, -, h3⟩ := hookConsulted_spec s
  unfold State.afterStep
  split
  · split
    · exact ⟨hc, .inr ⟨congrArg Units.frameDone h3, rfl, _, ‹_›⟩⟩
    · obtain ⟨-, -, k3, k4⟩ := frameEnd_spec s.hookConsulted
      exact ⟨(frameEnd_outcome _).trans hc, .inl ⟨by rw [k3], by rw [k4, h3]⟩⟩
  · obtain ⟨-, -, k3, k4⟩ := frameEnd_spec s
    exact ⟨frameEnd_outcome _, .inl ⟨by rw [k3], k4⟩⟩

theorem finishStep_spec (p : Bool) (s : State) :
    (s.finishStep p).cfg = s.cfg ∧ (s.finishStep p).units = s.units ∧
      ((s.finishStep p).cpu = s.cpu ∨
        p = true ∧ s.cpu.imePending = true ∧ (s.finishStep p).cpu = { s.cpu with ime := true, imePending := false }) := by
  unfold State.finishStep
  split
  · exact ⟨rfl, rfl, .inl rfl⟩
  · dsimp only
    split
    · rename_i h
      rw [Bool.and_eq_true] at h
      exact ⟨rfl, rfl, .inr ⟨h.1, h.2, rfl⟩⟩
    · exact ⟨rfl, rfl, .inl rfl⟩

/-- What an awake processor's `Step()` keeps, whatever it executes. -/
theorem executed_ran (s : State) : ∃ n, 1 ≤ n ∧ n ≤ 6 ∧ Ran s n s.executed := by
  have key : ∃ n, 1 ≤ n ∧ n ≤ 6 ∧ Ran s.awake n
      (s.awake.otherOperation.getD (s.awake.fetchForm.1.run s.awake.fetchForm.2)) := by
    cases h : s.awake.otherOperation with
    | some t => exact otherOperation_ran h
    | none => exact instruction_ran s.awake
  obtain ⟨n, h1, h2, hr⟩ := key
  obtain ⟨k1, k2, k3⟩ := finishStep_spec s.eiMatures
    (s.awake.otherOperation.getD (s.awake.fetchForm.1.run s.awake.fetchForm.2))
  refine ⟨n, h1, h2, ?_, k1.trans hr.cfg, fun hf => ?_, fun hd hp => ?_⟩
  · show Evolves s.cfg s.units n (State.finishStep _ _).units
    rw [k2]
    exact hr.evolves
  · have := hr.flags_low hf
    unfold State.executed
    obtain k3 | ⟨-, -, k3⟩ := k3 <;> rw [k3] <;> exact this
  · have := hr.pending hd hp
    unfold State.executed
    obtain k3 | ⟨-, -, k3⟩ := k3 <;> rw [k3]
    exact this

/-- A clearing of a request keeps the invariant of the units. -/
theorem clearRequest_inv (k : Nat) {u : Units} (h : u.Inv) : (clearRequest k u).Inv :=
  h.ofSame rfl rfl rfl rfl rfl rfl rfl rfl rfl h.bounds h.mem_wf h.mem_ram

/-- The units after the service of interrupt k (R351). -/
theorem serviceInterrupt_units (k : Nat) (s : State) :
    ∃ u, Evolves s.cfg s.units 4 u ∧ (s.serviceInterrupt k).units = ticks 4 (clearRequest k u) :=
  ⟨_, ((Evolves.refl.idle.idle).write _ _).write _ _, rfl⟩

end Machine

end Sys2Proof
end

