-- ==== Sys2Proof/Tests/Slice0.lean ====
section
/-! SUPPORT. Tests. Decoding, one theorem per sixteen opcodes, every byte written out from the opcode maps of
spec/30_encoding.md (R126, R127, R128); one step of every instruction rule and of the units, with expected values from
spec/95_test_vectors.md (a docstring names its section and the rule) or from a rule's own example; and for every
obligation with hypotheses a state that meets them (`witness_…`). -/

namespace Sys2Proof.Tests

open Machine

section

set_option maxRecDepth 100000

/-! ## WellFormed refuses (R129) -/

/-- 0x00 is NOP, no undefined opcode. -/
theorem test_wf_refuses_defined_code : (Instr.undefined 0x00#8).wf = false := by decide

/-- 0xCB is the prefix, no undefined opcode. -/
theorem test_wf_refuses_prefix : (Instr.undefined 0xCB#8).wf = false := by decide

theorem test_wf_accepts : ([0xD3, 0xDB, 0xDD, 0xE3, 0xE4, 0xEB, 0xEC, 0xED, 0xF4, 0xFC, 0xFD].all fun n =>
    (Instr.undefined (BitVec.ofNat 8 n)).wf) = true := by decide

/-! ## Decoding -/

/-- Every line's bytes decode to its instruction, with nothing left over, and its instruction encodes to them. -/
def decodesAll (l : List (List Nat × Instr)) : Bool :=
  l.all fun x =>
    let bs := x.1.map (BitVec.ofNat 8)
    decide (encode x.2 = bs) &&
      match decode bs with
      | .ok (i, rest) => decide (i = x.2 ∧ rest = [])
      | .error _ => false

/-- The proposition of the decode tests. -/
abbrev allDecode (l : List (List Nat × Instr)) : Prop := decodesAll l = true

theorem test_decode_base_0x : allDecode [
    ([0x00], .nop),
    ([0x01, 0x5A, 0xC3], .ld_BC_d16 0xC35A#16),
    ([0x02], .ld_atBC_A),
    ([0x03], .inc_BC),
    ([0x04], .inc_B),
    ([0x05], .dec_B),
    ([0x06, 0x5A], .ld_B_d8 0x5A#8),
    ([0x07], .rlca),
    ([0x08, 0x5A, 0xC3], .ld_atA16_SP 0xC35A#16),
    ([0x09], .add_HL_BC),
    ([0x0A], .ld_A_atBC),
    ([0x0B], .dec_BC),
    ([0x0C], .inc_C),
    ([0x0D], .dec_C),
    ([0x0E, 0x5A], .ld_C_d8 0x5A#8),
    ([0x0F], .rrca)] := by decide

theorem test_decode_base_1x : allDecode [
    ([0x10, 0x5A], .stop 0x5A#8),
    ([0x11, 0x5A, 0xC3], .ld_DE_d16 0xC35A#16),
    ([0x12], .ld_atDE_A),
    ([0x13], .inc_DE),
    ([0x14], .inc_D),
    ([0x15], .dec_D),
    ([0x16, 0x5A], .ld_D_d8 0x5A#8),
    ([0x17], .rla),
    ([0x18, 0x5A], .jr_e8 0x5A#8),
    ([0x19], .add_HL_DE),
    ([0x1A], .ld_A_atDE),
    ([0x1B], .dec_DE),
    ([0x1C], .inc_E),
    ([0x1D], .dec_E),
    ([0x1E, 0x5A], .ld_E_d8 0x5A#8),
    ([0x1F], .rra)] := by decide

theorem test_decode_base_2x : allDecode [
    ([0x20, 0x5A], .jr_NZ_e8 0x5A#8),
    ([0x21, 0x5A, 0xC3], .ld_HL_d16 0xC35A#16),
    ([0x22], .ld_atHLI_A),
    ([0x23], .inc_HL),
    ([0x24], .inc_H),
    ([0x25], .dec_H),
    ([0x26, 0x5A], .ld_H_d8 0x5A#8),
    ([0x27], .daa),
    ([0x28, 0x5A], .jr_Z_e8 0x5A#8),
    ([0x29], .add_HL_HL),
    ([0x2A], .ld_A_atHLI),
    ([0x2B], .dec_HL),
    ([0x2C], .inc_L),
    ([0x2D], .dec_L),
    ([0x2E, 0x5A], .ld_L_d8 0x5A#8),
    ([0x2F], .cpl)] := by decide

theorem test_decode_base_3x : allDecode [
    ([0x30, 0x5A], .jr_NC_e8 0x5A#8),
    ([0x31, 0x5A, 0xC3], .ld_SP_d16 0xC35A#16),
    ([0x32], .ld_atHLD_A),
    ([0x33], .inc_SP),
    ([0x34], .inc_atHL),
    ([0x35], .dec_atHL),
    ([0x36, 0x5A], .ld_atHL_d8 0x5A#8),
    ([0x37], .scf),
    ([0x38, 0x5A], .jr_C_e8 0x5A#8),
    ([0x39], .add_HL_SP),
    ([0x3A], .ld_A_atHLD),
    ([0x3B], .dec_SP),
    ([0x3C], .inc_A),
    ([0x3D], .dec_A),
    ([0x3E, 0x5A], .ld_A_d8 0x5A#8),
    ([0x3F], .ccf)] := by decide

theorem test_decode_base_4x : allDecode [
    ([0x40], .ld_B_B),
    ([0x41], .ld_B_C),
    ([0x42], .ld_B_D),
    ([0x43], .ld_B_E),
    ([0x44], .ld_B_H),
    ([0x45], .ld_B_L),
    ([0x46], .ld_B_atHL),
    ([0x47], .ld_B_A),
    ([0x48], .ld_C_B),
    ([0x49], .ld_C_C),
    ([0x4A], .ld_C_D),
    ([0x4B], .ld_C_E),
    ([0x4C], .ld_C_H),
    ([0x4D], .ld_C_L),
    ([0x4E], .ld_C_atHL),
    ([0x4F], .ld_C_A)] := by decide

theorem test_decode_base_5x : allDecode [
    ([0x50], .ld_D_B),
    ([0x51], .ld_D_C),
    ([0x52], .ld_D_D),
    ([0x53], .ld_D_E),
    ([0x54], .ld_D_H),
    ([0x55], .ld_D_L),
    ([0x56], .ld_D_atHL),
    ([0x57], .ld_D_A),
    ([0x58], .ld_E_B),
    ([0x59], .ld_E_C),
    ([0x5A], .ld_E_D),
    ([0x5B], .ld_E_E),
    ([0x5C], .ld_E_H),
    ([0x5D], .ld_E_L),
    ([0x5E], .ld_E_atHL),
    ([0x5F], .ld_E_A)] := by decide

theorem test_decode_base_6x : allDecode [
    ([0x60], .ld_H_B),
    ([0x61], .ld_H_C),
    ([0x62], .ld_H_D),
    ([0x63], .ld_H_E),
    ([0x64], .ld_H_H),
    ([0x65], .ld_H_L),
    ([0x66], .ld_H_atHL),
    ([0x67], .ld_H_A),
    ([0x68], .ld_L_B),
    ([0x69], .ld_L_C),
    ([0x6A], .ld_L_D),
    ([0x6B], .ld_L_E),
    ([0x6C], .ld_L_H),
    ([0x6D], .ld_L_L),
    ([0x6E], .ld_L_atHL),
    ([0x6F], .ld_L_A)] := by decide

theorem test_decode_base_7x : allDecode [
    ([0x70], .ld_atHL_B),
    ([0x71], .ld_atHL_C),
    ([0x72], .ld_atHL_D),
    ([0x73], .ld_atHL_E),
    ([0x74], .ld_atHL_H),
    ([0x75], .ld_atHL_L),
    ([0x76], .halt),
    ([0x77], .ld_atHL_A),
    ([0x78], .ld_A_B),
    ([0x79], .ld_A_C),
    ([0x7A], .ld_A_D),
    ([0x7B], .ld_A_E),
    ([0x7C], .ld_A_H),
    ([0x7D], .ld_A_L),
    ([0x7E], .ld_A_atHL),
    ([0x7F], .ld_A_A)] := by decide

theorem test_decode_base_8x : allDecode [
    ([0x80], .add_A_B),
    ([0x81], .add_A_C),
    ([0x82], .add_A_D),
    ([0x83], .add_A_E),
    ([0x84], .add_A_H),
    ([0x85], .add_A_L),
    ([0x86], .add_A_atHL),
    ([0x87], .add_A_A),
    ([0x88], .adc_A_B),
    ([0x89], .adc_A_C),
    ([0x8A], .adc_A_D),
    ([0x8B], .adc_A_E),
    ([0x8C], .adc_A_H),
    ([0x8D], .adc_A_L),
    ([0x8E], .adc_A_atHL),
    ([0x8F], .adc_A_A)] := by decide

theorem test_decode_base_9x : allDecode [
    ([0x90], .sub_B),
    ([0x91], .sub_C),
    ([0x92], .sub_D),
    ([0x93], .sub_E),
    ([0x94], .sub_H),
    ([0x95], .sub_L),
    ([0x96], .sub_atHL),
    ([0x97], .sub_A),
    ([0x98], .sbc_A_B),
    ([0x99], .sbc_A_C),
    ([0x9A], .sbc_A_D),
    ([0x9B], .sbc_A_E),
    ([0x9C], .sbc_A_H),
    ([0x9D], .sbc_A_L),
    ([0x9E], .sbc_A_atHL),
    ([0x9F], .sbc_A_A)] := by decide

theorem test_decode_base_Ax : allDecode [
    ([0xA0], .and_B),
    ([0xA1], .and_C),
    ([0xA2], .and_D),
    ([0xA3], .and_E),
    ([0xA4], .and_H),
    ([0xA5], .and_L),
    ([0xA6], .and_atHL),
    ([0xA7], .and_A),
    ([0xA8], .xor_B),
    ([0xA9], .xor_C),
    ([0xAA], .xor_D),
    ([0xAB], .xor_E),
    ([0xAC], .xor_H),
    ([0xAD], .xor_L),
    ([0xAE], .xor_atHL),
    ([0xAF], .xor_A)] := by decide

theorem test_decode_base_Bx : allDecode [
    ([0xB0], .or_B),
    ([0xB1], .or_C),
    ([0xB2], .or_D),
    ([0xB3], .or_E),
    ([0xB4], .or_H),
    ([0xB5], .or_L),
    ([0xB6], .or_atHL),
    ([0xB7], .or_A),
    ([0xB8], .cp_B),
    ([0xB9], .cp_C),
    ([0xBA], .cp_D),
    ([0xBB], .cp_E),
    ([0xBC], .cp_H),
    ([0xBD], .cp_L),
    ([0xBE], .cp_atHL),
    ([0xBF], .cp_A)] := by decide

theorem test_decode_base_Cx : allDecode [
    ([0xC0], .ret_NZ),
    ([0xC1], .pop_BC),
    ([0xC2, 0x5A, 0xC3], .jp_NZ_a16 0xC35A#16),
    ([0xC3, 0x5A, 0xC3], .jp_a16 0xC35A#16),
    ([0xC4, 0x5A, 0xC3], .call_NZ_a16 0xC35A#16),
    ([0xC5], .push_BC),
    ([0xC6, 0x5A], .add_A_d8 0x5A#8),
    ([0xC7], .rst_00),
    ([0xC8], .ret_Z),
    ([0xC9], .ret),
    ([0xCA, 0x5A, 0xC3], .jp_Z_a16 0xC35A#16),
    ([0xCC, 0x5A, 0xC3], .call_Z_a16 0xC35A#16),
    ([0xCD, 0x5A, 0xC3], .call_a16 0xC35A#16),
    ([0xCE, 0x5A], .adc_A_d8 0x5A#8),
    ([0xCF], .rst_08)] := by decide

theorem test_decode_base_Dx : allDecode [
    ([0xD0], .ret_NC),
    ([0xD1], .pop_DE),
    ([0xD2, 0x5A, 0xC3], .jp_NC_a16 0xC35A#16),
    ([0xD3], .undefined 0xD3#8),
    ([0xD4, 0x5A, 0xC3], .call_NC_a16 0xC35A#16),
    ([0xD5], .push_DE),
    ([0xD6, 0x5A], .sub_d8 0x5A#8),
    ([0xD7], .rst_10),
    ([0xD8], .ret_C),
    ([0xD9], .reti),
    ([0xDA, 0x5A, 0xC3], .jp_C_a16 0xC35A#16),
    ([0xDB], .undefined 0xDB#8),
    ([0xDC, 0x5A, 0xC3], .call_C_a16 0xC35A#16),
    ([0xDD], .undefined 0xDD#8),
    ([0xDE, 0x5A], .sbc_A_d8 0x5A#8),
    ([0xDF], .rst_18)] := by decide

theorem test_decode_base_Ex : allDecode [
    ([0xE0, 0x5A], .ldh_atA8_A 0x5A#8),
    ([0xE1], .pop_HL),
    ([0xE2], .ld_atC_A),
    ([0xE3], .undefined 0xE3#8),
    ([0xE4], .undefined 0xE4#8),
    ([0xE5], .push_HL),
    ([0xE6, 0x5A], .and_d8 0x5A#8),
    ([0xE7], .rst_20),
    ([0xE8, 0x5A], .add_SP_e8 0x5A#8),
    ([0xE9], .jp_HL),
    ([0xEA, 0x5A, 0xC3], .ld_atA16_A 0xC35A#16),
    ([0xEB], .undefined 0xEB#8),
    ([0xEC], .undefined 0xEC#8),
    ([0xED], .undefined 0xED#8),
    ([0xEE, 0x5A], .xor_d8 0x5A#8),
    ([0xEF], .rst_28)] := by decide

theorem test_decode_base_Fx : allDecode [
    ([0xF0, 0x5A], .ldh_A_atA8 0x5A#8),
    ([0xF1], .pop_AF),
    ([0xF2], .ld_A_atC),
    ([0xF3], .di),
    ([0xF4], .undefined 0xF4#8),
    ([0xF5], .push_AF),
    ([0xF6, 0x5A], .or_d8 0x5A#8),
    ([0xF7], .rst_30),
    ([0xF8, 0x5A], .ld_HL_SPe8 0x5A#8),
    ([0xF9], .ld_SP_HL),
    ([0xFA, 0x5A, 0xC3], .ld_A_atA16 0xC35A#16),
    ([0xFB], .ei),
    ([0xFC], .undefined 0xFC#8),
    ([0xFD], .undefined 0xFD#8),
    ([0xFE, 0x5A], .cp_d8 0x5A#8),
    ([0xFF], .rst_38)] := by decide

theorem test_decode_cb_0x : allDecode [
    ([0xCB, 0x00], .rlc_B),
    ([0xCB, 0x01], .rlc_C),
    ([0xCB, 0x02], .rlc_D),
    ([0xCB, 0x03], .rlc_E),
    ([0xCB, 0x04], .rlc_H),
    ([0xCB, 0x05], .rlc_L),
    ([0xCB, 0x06], .rlc_atHL),
    ([0xCB, 0x07], .rlc_A),
    ([0xCB, 0x08], .rrc_B),
    ([0xCB, 0x09], .rrc_C),
    ([0xCB, 0x0A], .rrc_D),
    ([0xCB, 0x0B], .rrc_E),
    ([0xCB, 0x0C], .rrc_H),
    ([0xCB, 0x0D], .rrc_L),
    ([0xCB, 0x0E], .rrc_atHL),
    ([0xCB, 0x0F], .rrc_A)] := by decide

theorem test_decode_cb_1x : allDecode [
    ([0xCB, 0x10], .rl_B),
    ([0xCB, 0x11], .rl_C),
    ([0xCB, 0x12], .rl_D),
    ([0xCB, 0x13], .rl_E),
    ([0xCB, 0x14], .rl_H),
    ([0xCB, 0x15], .rl_L),
    ([0xCB, 0x16], .rl_atHL),
    ([0xCB, 0x17], .rl_A),
    ([0xCB, 0x18], .rr_B),
    ([0xCB, 0x19], .rr_C),
    ([0xCB, 0x1A], .rr_D),
    ([0xCB, 0x1B], .rr_E),
    ([0xCB, 0x1C], .rr_H),
    ([0xCB, 0x1D], .rr_L),
    ([0xCB, 0x1E], .rr_atHL),
    ([0xCB, 0x1F], .rr_A)] := by decide

theorem test_decode_cb_2x : allDecode [
    ([0xCB, 0x20], .sla_B),
    ([0xCB, 0x21], .sla_C),
    ([0xCB, 0x22], .sla_D),
    ([0xCB, 0x23], .sla_E),
    ([0xCB, 0x24], .sla_H),
    ([0xCB, 0x25], .sla_L),
    ([0xCB, 0x26], .sla_atHL),
    ([0xCB, 0x27], .sla_A),
    ([0xCB, 0x28], .sra_B),
    ([0xCB, 0x29], .sra_C),
    ([0xCB, 0x2A], .sra_D),
    ([0xCB, 0x2B], .sra_E),
    ([0xCB, 0x2C], .sra_H),
    ([0xCB, 0x2D], .sra_L),
    ([0xCB, 0x2E], .sra_atHL),
    ([0xCB, 0x2F], .sra_A)] := by decide

theorem test_decode_cb_3x : allDecode [
    ([0xCB, 0x30], .swap_B),
    ([0xCB, 0x31], .swap_C),
    ([0xCB, 0x32], .swap_D),
    ([0xCB, 0x33], .swap_E),
    ([0xCB, 0x34], .swap_H),
    ([0xCB, 0x35], .swap_L),
    ([0xCB, 0x36], .swap_atHL),
    ([0xCB, 0x37], .swap_A),
    ([0xCB, 0x38], .srl_B),
    ([0xCB, 0x39], .srl_C),
    ([0xCB, 0x3A], .srl_D),
    ([0xCB, 0x3B], .srl_E),
    ([0xCB, 0x3C], .srl_H),
    ([0xCB, 0x3D], .srl_L),
    ([0xCB, 0x3E], .srl_atHL),
    ([0xCB, 0x3F], .srl_A)] := by decide

theorem test_decode_cb_4x : allDecode [
    ([0xCB, 0x40], .bit_0_B),
    ([0xCB, 0x41], .bit_0_C),
    ([0xCB, 0x42], .bit_0_D),
    ([0xCB, 0x43], .bit_0_E),
    ([0xCB, 0x44], .bit_0_H),
    ([0xCB, 0x45], .bit_0_L),
    ([0xCB, 0x46], .bit_0_atHL),
    ([0xCB, 0x47], .bit_0_A),
    ([0xCB, 0x48], .bit_1_B),
    ([0xCB, 0x49], .bit_1_C),
    ([0xCB, 0x4A], .bit_1_D),
    ([0xCB, 0x4B], .bit_1_E),
    ([0xCB, 0x4C], .bit_1_H),
    ([0xCB, 0x4D], .bit_1_L),
    ([0xCB, 0x4E], .bit_1_atHL),
    ([0xCB, 0x4F], .bit_1_A)] := by decide

theorem test_decode_cb_5x : allDecode [
    ([0xCB, 0x50], .bit_2_B),
    ([0xCB, 0x51], .bit_2_C),
    ([0xCB, 0x52], .bit_2_D),
    ([0xCB, 0x53], .bit_2_E),
    ([0xCB, 0x54], .bit_2_H),
    ([0xCB, 0x55], .bit_2_L),
    ([0xCB, 0x56], .bit_2_atHL),
    ([0xCB, 0x57], .bit_2_A),
    ([0xCB, 0x58], .bit_3_B),
    ([0xCB, 0x59], .bit_3_C),
    ([0xCB, 0x5A], .bit_3_D),
    ([0xCB, 0x5B], .bit_3_E),
    ([0xCB, 0x5C], .bit_3_H),
    ([0xCB, 0x5D], .bit_3_L),
    ([0xCB, 0x5E], .bit_3_atHL),
    ([0xCB, 0x5F], .bit_3_A)] := by decide

theorem test_decode_cb_6x : allDecode [
    ([0xCB, 0x60], .bit_4_B),
    ([0xCB, 0x61], .bit_4_C),
    ([0xCB, 0x62], .bit_4_D),
    ([0xCB, 0x63], .bit_4_E),
    ([0xCB, 0x64], .bit_4_H),
    ([0xCB, 0x65], .bit_4_L),
    ([0xCB, 0x66], .bit_4_atHL),
    ([0xCB, 0x67], .bit_4_A),
    ([0xCB, 0x68], .bit_5_B),
    ([0xCB, 0x69], .bit_5_C),
    ([0xCB, 0x6A], .bit_5_D),
    ([0xCB, 0x6B], .bit_5_E),
    ([0xCB, 0x6C], .bit_5_H),
    ([0xCB, 0x6D], .bit_5_L),
    ([0xCB, 0x6E], .bit_5_atHL),
    ([0xCB, 0x6F], .bit_5_A)] := by decide

theorem test_decode_cb_7x : allDecode [
    ([0xCB, 0x70], .bit_6_B),
    ([0xCB, 0x71], .bit_6_C),
    ([0xCB, 0x72], .bit_6_D),
    ([0xCB, 0x73], .bit_6_E),
    ([0xCB, 0x74], .bit_6_H),
    ([0xCB, 0x75], .bit_6_L),
    ([0xCB, 0x76], .bit_6_atHL),
    ([0xCB, 0x77], .bit_6_A),
    ([0xCB, 0x78], .bit_7_B),
    ([0xCB, 0x79], .bit_7_C),
    ([0xCB, 0x7A], .bit_7_D),
    ([0xCB, 0x7B], .bit_7_E),
    ([0xCB, 0x7C], .bit_7_H),
    ([0xCB, 0x7D], .bit_7_L),
    ([0xCB, 0x7E], .bit_7_atHL),
    ([0xCB, 0x7F], .bit_7_A)] := by decide

theorem test_decode_cb_8x : allDecode [
    ([0xCB, 0x80], .res_0_B),
    ([0xCB, 0x81], .res_0_C),
    ([0xCB, 0x82], .res_0_D),
    ([0xCB, 0x83], .res_0_E),
    ([0xCB, 0x84], .res_0_H),
    ([0xCB, 0x85], .res_0_L),
    ([0xCB, 0x86], .res_0_atHL),
    ([0xCB, 0x87], .res_0_A),
    ([0xCB, 0x88], .res_1_B),
    ([0xCB, 0x89], .res_1_C),
    ([0xCB, 0x8A], .res_1_D),
    ([0xCB, 0x8B], .res_1_E),
    ([0xCB, 0x8C], .res_1_H),
    ([0xCB, 0x8D], .res_1_L),
    ([0xCB, 0x8E], .res_1_atHL),
    ([0xCB, 0x8F], .res_1_A)] := by decide

theorem test_decode_cb_9x : allDecode [
    ([0xCB, 0x90], .res_2_B),
    ([0xCB, 0x91], .res_2_C),
    ([0xCB, 0x92], .res_2_D),
    ([0xCB, 0x93], .res_2_E),
    ([0xCB, 0x94], .res_2_H),
    ([0xCB, 0x95], .res_2_L),
    ([0xCB, 0x96], .res_2_atHL),
    ([0xCB, 0x97], .res_2_A),
    ([0xCB, 0x98], .res_3_B),
    ([0xCB, 0x99], .res_3_C),
    ([0xCB, 0x9A], .res_3_D),
    ([0xCB, 0x9B], .res_3_E),
    ([0xCB, 0x9C], .res_3_H),
    ([0xCB, 0x9D], .res_3_L),
    ([0xCB, 0x9E], .res_3_atHL),
    ([0xCB, 0x9F], .res_3_A)] := by decide

theorem test_decode_cb_Ax : allDecode [
    ([0xCB, 0xA0], .res_4_B),
    ([0xCB, 0xA1], .res_4_C),
    ([0xCB, 0xA2], .res_4_D),
    ([0xCB, 0xA3], .res_4_E),
    ([0xCB, 0xA4], .res_4_H),
    ([0xCB, 0xA5], .res_4_L),
    ([0xCB, 0xA6], .res_4_atHL),
    ([0xCB, 0xA7], .res_4_A),
    ([0xCB, 0xA8], .res_5_B),
    ([0xCB, 0xA9], .res_5_C),
    ([0xCB, 0xAA], .res_5_D),
    ([0xCB, 0xAB], .res_5_E),
    ([0xCB, 0xAC], .res_5_H),
    ([0xCB, 0xAD], .res_5_L),
    ([0xCB, 0xAE], .res_5_atHL),
    ([0xCB, 0xAF], .res_5_A)] := by decide

theorem test_decode_cb_Bx : allDecode [
    ([0xCB, 0xB0], .res_6_B),
    ([0xCB, 0xB1], .res_6_C),
    ([0xCB, 0xB2], .res_6_D),
    ([0xCB, 0xB3], .res_6_E),
    ([0xCB, 0xB4], .res_6_H),
    ([0xCB, 0xB5], .res_6_L),
    ([0xCB, 0xB6], .res_6_atHL),
    ([0xCB, 0xB7], .res_6_A),
    ([0xCB, 0xB8], .res_7_B),
    ([0xCB, 0xB9], .res_7_C),
    ([0xCB, 0xBA], .res_7_D),
    ([0xCB, 0xBB], .res_7_E),
    ([0xCB, 0xBC], .res_7_H),
    ([0xCB, 0xBD], .res_7_L),
    ([0xCB, 0xBE], .res_7_atHL),
    ([0xCB, 0xBF], .res_7_A)] := by decide

theorem test_decode_cb_Cx : allDecode [
    ([0xCB, 0xC0], .set_0_B),
    ([0xCB, 0xC1], .set_0_C),
    ([0xCB, 0xC2], .set_0_D),
    ([0xCB, 0xC3], .set_0_E),
    ([0xCB, 0xC4], .set_0_H),
    ([0xCB, 0xC5], .set_0_L),
    ([0xCB, 0xC6], .set_0_atHL),
    ([0xCB, 0xC7], .set_0_A),
    ([0xCB, 0xC8], .set_1_B),
    ([0xCB, 0xC9], .set_1_C),
    ([0xCB, 0xCA], .set_1_D),
    ([0xCB, 0xCB], .set_1_E),
    ([0xCB, 0xCC], .set_1_H),
    ([0xCB, 0xCD], .set_1_L),
    ([0xCB, 0xCE], .set_1_atHL),
    ([0xCB, 0xCF], .set_1_A)] := by decide

theorem test_decode_cb_Dx : allDecode [
    ([0xCB, 0xD0], .set_2_B),
    ([0xCB, 0xD1], .set_2_C),
    ([0xCB, 0xD2], .set_2_D),
    ([0xCB, 0xD3], .set_2_E),
    ([0xCB, 0xD4], .set_2_H),
    ([0xCB, 0xD5], .set_2_L),
    ([0xCB, 0xD6], .set_2_atHL),
    ([0xCB, 0xD7], .set_2_A),
    ([0xCB, 0xD8], .set_3_B),
    ([0xCB, 0xD9], .set_3_C),
    ([0xCB, 0xDA], .set_3_D),
    ([0xCB, 0xDB], .set_3_E),
    ([0xCB, 0xDC], .set_3_H),
    ([0xCB, 0xDD], .set_3_L),
    ([0xCB, 0xDE], .set_3_atHL),
    ([0xCB, 0xDF], .set_3_A)] := by decide

theorem test_decode_cb_Ex : allDecode [
    ([0xCB, 0xE0], .set_4_B),
    ([0xCB, 0xE1], .set_4_C),
    ([0xCB, 0xE2], .set_4_D),
    ([0xCB, 0xE3], .set_4_E),
    ([0xCB, 0xE4], .set_4_H),
    ([0xCB, 0xE5], .set_4_L),
    ([0xCB, 0xE6], .set_4_atHL),
    ([0xCB, 0xE7], .set_4_A),
    ([0xCB, 0xE8], .set_5_B),
    ([0xCB, 0xE9], .set_5_C),
    ([0xCB, 0xEA], .set_5_D),
    ([0xCB, 0xEB], .set_5_E),
    ([0xCB, 0xEC], .set_5_H),
    ([0xCB, 0xED], .set_5_L),
    ([0xCB, 0xEE], .set_5_atHL),
    ([0xCB, 0xEF], .set_5_A)] := by decide

theorem test_decode_cb_Fx : allDecode [
    ([0xCB, 0xF0], .set_6_B),
    ([0xCB, 0xF1], .set_6_C),
    ([0xCB, 0xF2], .set_6_D),
    ([0xCB, 0xF3], .set_6_E),
    ([0xCB, 0xF4], .set_6_H),
    ([0xCB, 0xF5], .set_6_L),
    ([0xCB, 0xF6], .set_6_atHL),
    ([0xCB, 0xF7], .set_6_A),
    ([0xCB, 0xF8], .set_7_B),
    ([0xCB, 0xF9], .set_7_C),
    ([0xCB, 0xFA], .set_7_D),
    ([0xCB, 0xFB], .set_7_E),
    ([0xCB, 0xFC], .set_7_H),
    ([0xCB, 0xFD], .set_7_L),
    ([0xCB, 0xFE], .set_7_atHL),
    ([0xCB, 0xFF], .set_7_A)] := by decide

/-- A truncated instruction is rejected (R125). -/
theorem test_decode_truncated : (match decode [0xC3#8, 0x50#8] with
    | .ok _ => false
    | .error _ => true) = true := by decide

/-- The table's word 0xCB37 is byte 0 = 0xCB, byte 1 = 0x37 (R133). -/
theorem test_decode_table_word : decodeTableWord 16 0xCB37 = some .swap_A := by decide

/-- The table's word 0xFC00. -/
theorem test_decode_table_word_undefined : decodeTableWord 16 0xFC00 = some (.undefined 0xFC#8) := by decide

/-! ## Steps -/

/-- The harness state H0 of spec/95_test_vectors.md section 0, with a code at 0xC000, bytes of memory and registers. -/
def h0 (code : List Nat) (before : Cpu → Cpu) (bytes : List (Nat × Byte)) : State :=
  let cpu : Cpu := { Cpu.reset with
    a := 0x00#8, c := 0x00#8, e := 0x00#8, h := 0x00#8, l := 0x00#8,
    sp := 0xDFF0#16, pc := 0xC000#16 }
  let placed := State.placeBytes 0xC000#16 (code.map (BitVec.ofNat 8)) { State.reset with cpu := before cpu }
  bytes.foldl (fun s x => s.mapUnits (storeRam x.1 x.2)) placed

/-- One step from H0 gives a next state that passes the check. -/
def gives (code : List Nat) (before : Cpu → Cpu) (bytes : List (Nat × Byte)) (check : State → Bool) : Bool :=
  match step (h0 code before bytes) with
  | .next t => check t
  | _ => false

/-- One step from `s` gives a next state that passes the check. -/
def stepGives (s : State) (check : State → Bool) : Bool :=
  match step s with
  | .next t => check t
  | _ => false

/-- A byte of internal memory. -/
def memAt (t : State) (addr : Nat) : Byte := Memory.read t.units.bus.mem addr

/-- 2.1, R151. -/
theorem test_ld_r_r : gives [0x41] (fun c => { c with c := 0x5A#8 }) []
    (fun t => decide (t.cpu.b = 0x5A#8 ∧ t.cpu.c = 0x5A#8 ∧ t.units.cycles = 4)) = true := by decide

/-- 2.1, R152. -/
theorem test_ld_r_d8 : gives [0x06, 0x9C] (fun c => c) []
    (fun t => decide (t.cpu.b = 0x9C#8 ∧ t.cpu.pc = 0xC002#16 ∧ t.units.cycles = 8)) = true := by decide

/-- R153, the old HL addresses. -/
theorem test_ld_r_hl : gives [0x66] (fun c => { c with h := 0xC1#8, l := 0x00#8 }) [(0xC100, 0x77#8)]
    (fun t => decide (t.cpu.h = 0x77#8 ∧ t.cpu.l = 0x00#8 ∧ t.units.cycles = 8)) = true := by decide

/-- 2.1, R154. -/
theorem test_ld_hl_r : gives [0x70] (fun c => { c with h := 0xC1#8, l := 0x00#8, b := 0xAB#8 }) []
    (fun t => decide (memAt t 0xC100 = 0xAB#8 ∧ t.units.cycles = 8)) = true := by decide

/-- 2.1, R155. -/
theorem test_ld_hl_d8 : gives [0x36, 0x42] (fun c => { c with h := 0xC1#8, l := 0x00#8 }) []
    (fun t => decide (memAt t 0xC100 = 0x42#8 ∧ t.units.cycles = 12)) = true := by decide

/-- 2.1, R156. -/
theorem test_ld_a_bc : gives [0x0A] (fun c => { c with b := 0xC1#8, c := 0x23#8 }) [(0xC123, 0x99#8)]
    (fun t => decide (t.cpu.a = 0x99#8 ∧ t.units.cycles = 8)) = true := by decide

/-- 2.1, R157. -/
theorem test_ld_a_de : gives [0x1A] (fun c => { c with d := 0xC1#8, e := 0x23#8 }) [(0xC123, 0x99#8)]
    (fun t => decide (t.cpu.a = 0x99#8 ∧ t.units.cycles = 8)) = true := by decide

/-- 2.1, R158. -/
theorem test_ld_bc_a : gives [0x02] (fun c => { c with a := 0x5E#8, b := 0xC2#8, c := 0x00#8 }) []
    (fun t => decide (memAt t 0xC200 = 0x5E#8 ∧ t.units.cycles = 8)) = true := by decide

/-- 2.1, R159. -/
theorem test_ld_de_a : gives [0x12] (fun c => { c with a := 0x5E#8, d := 0xC2#8, e := 0x00#8 }) []
    (fun t => decide (memAt t 0xC200 = 0x5E#8 ∧ t.units.cycles = 8)) = true := by decide

/-- 2.1, R160. -/
theorem test_ld_a_a16 : gives [0xFA, 0x34, 0xC2] (fun c => c) [(0xC234, 0x3C#8)]
    (fun t => decide (t.cpu.a = 0x3C#8 ∧ t.units.cycles = 16)) = true := by decide

/-- 2.1, R161. -/
theorem test_ld_a16_a : gives [0xEA, 0x00, 0xD0] (fun c => { c with a := 0x81#8 }) []
    (fun t => decide (memAt t 0xD000 = 0x81#8 ∧ t.units.cycles = 16)) = true := by decide

/-- 2.1, R162. -/
theorem test_ldh_a_a8 : gives [0xF0, 0x44] (fun c => { c with a := 0x55#8 }) []
    (fun t => decide (t.cpu.a = 0x00#8 ∧ t.units.cycles = 12)) = true := by decide

/-- 2.1, R163. -/
theorem test_ldh_a8_a : gives [0xE0, 0x80] (fun c => { c with a := 0x55#8 }) []
    (fun t => decide (memAt t 0xFF80 = 0x55#8 ∧ t.units.cycles = 12)) = true := by decide

/-- 2.1, R164. -/
theorem test_ld_a_c : gives [0xF2] (fun c => { c with c := 0x81#8 }) [(0xFF81, 0xEE#8)]
    (fun t => decide (t.cpu.a = 0xEE#8 ∧ t.units.cycles = 8)) = true := by decide

/-- 2.1, R165. -/
theorem test_ld_c_a : gives [0xE2] (fun c => { c with a := 0x07#8, c := 0x82#8 }) []
    (fun t => decide (memAt t 0xFF82 = 0x07#8 ∧ t.units.cycles = 8)) = true := by decide

/-- 2.1, R166. -/
theorem test_ld_hli_a : gives [0x22] (fun c => { c with a := 0x11#8, h := 0xC0#8, l := 0xFF#8 }) []
    (fun t => decide (memAt t 0xC0FF = 0x11#8 ∧ t.cpu.hl = 0xC100#16 ∧ t.units.cycles = 8)) = true := by decide

/-- 2.1, R167. -/
theorem test_ld_hld_a : gives [0x32] (fun c => { c with a := 0x22#8, h := 0xC0#8, l := 0x00#8 }) []
    (fun t => decide (memAt t 0xC000 = 0x22#8 ∧ t.cpu.hl = 0xBFFF#16 ∧ t.units.cycles = 8)) = true := by decide

/-- 2.1, R168. -/
theorem test_ld_a_hli : gives [0x2A] (fun c => { c with a := 0x01#8, h := 0xFF#8, l := 0xFF#8 }) []
    (fun t => decide (t.cpu.a = 0x00#8 ∧ t.cpu.hl = 0x0000#16 ∧ t.units.cycles = 8)) = true := by decide

/-- 2.1, R169. -/
theorem test_ld_a_hld : gives [0x3A] (fun c => { c with h := 0xC1#8, l := 0x00#8 }) [(0xC100, 0x09#8)]
    (fun t => decide (t.cpu.a = 0x09#8 ∧ t.cpu.hl = 0xC0FF#16 ∧ t.units.cycles = 8)) = true := by decide

/-- 2.1, R81. -/
theorem test_vram_open : gives [0x77] (fun c => { c with a := 0x33#8, h := 0x80#8, l := 0x00#8 }) []
    (fun t => decide (memAt t 0x8000 = 0x33#8)) = true := by decide

/-- 2.1, R85. -/
theorem test_oam_blocked : gives [0x7E] (fun c => { c with h := 0xFE#8, l := 0x00#8 }) [(0xFE00, 0x11#8)]
    (fun t => decide (t.cpu.a = 0xFF#8)) = true := by decide

/-- 2.1, R86. -/
theorem test_unusable_blocked : gives [0x7E] (fun c => { c with h := 0xFE#8, l := 0xA0#8 }) []
    (fun t => decide (t.cpu.a = 0xFF#8)) = true := by decide

/-- 2.1, R84. -/
theorem test_echo : gives [0x7E] (fun c => { c with h := 0xE1#8, l := 0x00#8 }) [(0xC100, 0x5A#8)]
    (fun t => decide (t.cpu.a = 0x5A#8)) = true := by decide

/-- 2.1, R82. -/
theorem test_ext_ram_absent : gives [0x7E] (fun c => { c with h := 0xA0#8, l := 0x00#8 }) []
    (fun t => decide (t.cpu.a = 0xFF#8)) = true := by decide

/-- 2.1, R92. -/
theorem test_io_unimplemented : gives [0x7E] (fun c => { c with h := 0xFF#8, l := 0x10#8 }) []
    (fun t => decide (t.cpu.a = 0xFF#8)) = true := by decide

/-- 2.1, R79. -/
theorem test_rom_absent : gives [0x7E] (fun c => { c with h := 0x00#8, l := 0x00#8 }) []
    (fun t => decide (t.cpu.a = 0xFF#8)) = true := by decide

/-- 2.2, R191. -/
theorem test_ld_rr_d16 : gives [0x01, 0x34, 0x12] (fun c => c) []
    (fun t => decide (t.cpu.b = 0x12#8 ∧ t.cpu.c = 0x34#8 ∧ t.units.cycles = 12)) = true := by decide

/-- 2.2, R192. -/
theorem test_ld_a16_sp : gives [0x08, 0x00, 0xC1] (fun c => { c with sp := 0xFFF8#16 }) []
    (fun t => decide (memAt t 0xC100 = 0xF8#8 ∧ memAt t 0xC101 = 0xFF#8 ∧ t.units.cycles = 20)) = true := by decide

/-- 2.2, R193. -/
theorem test_ld_sp_hl : gives [0xF9] (fun c => { c with h := 0xC0#8, l := 0xDE#8 }) []
    (fun t => decide (t.cpu.sp = 0xC0DE#16 ∧ t.units.cycles = 8)) = true := by decide

/-- 2.2, R194. -/
theorem test_ld_hl_sp_e8 : gives [0xF8, 0xFE] (fun c => { c with sp := 0x0001#16 }) []
    (fun t => decide (t.cpu.hl = 0xFFFF#16 ∧ t.cpu.f = 0x00#8 ∧ t.units.cycles = 12)) = true := by decide

/-- 2.2, R194. -/
theorem test_ld_hl_sp_e8_carries : gives [0xF8, 0x08] (fun c => { c with sp := 0xFFF8#16 }) []
    (fun t => decide (t.cpu.hl = 0x0000#16 ∧ t.cpu.f = 0x30#8)) = true := by decide

/-- 2.2, R195. -/
theorem test_push : gives [0xF5] (fun c => { c with a := 0x12#8, f := 0xB0#8, sp := 0xD000#16 }) []
    (fun t => decide (memAt t 0xCFFF = 0x12#8 ∧ memAt t 0xCFFE = 0xB0#8 ∧ t.cpu.sp = 0xCFFE#16 ∧ t.units.cycles = 16)) = true := by decide

/-- 2.2, R196. -/
theorem test_pop : gives [0xC1] (fun c => { c with sp := 0xCFFE#16 }) [(0xCFFE, 0x34#8), (0xCFFF, 0x12#8)]
    (fun t => decide (t.cpu.bc = 0x1234#16 ∧ t.cpu.sp = 0xD000#16 ∧ t.units.cycles = 12)) = true := by decide

/-- 2.2, R197. -/
theorem test_pop_af : gives [0xF1] (fun c => { c with sp := 0xCFFE#16 }) [(0xCFFE, 0xFF#8), (0xCFFF, 0x12#8)]
    (fun t => decide (t.cpu.a = 0x12#8 ∧ t.cpu.f = 0xF0#8 ∧ t.cpu.sp = 0xD000#16)) = true := by decide

/-- 2.2, R195, R79, R89. -/
theorem test_push_over_ie : gives [0xC5] (fun c => { c with b := 0xBE#8, c := 0xEF#8, sp := 0x0001#16 }) []
    (fun t => decide (t.cpu.sp = 0xFFFF#16 ∧ t.units.cycles = 16)) = true := by decide

/-- 2.3, R213. -/
theorem test_add : gives [0x80] (fun c => { c with a := 0x3A#8, b := 0xC6#8 }) []
    (fun t => decide (t.cpu.a = 0x00#8 ∧ t.cpu.f = 0xB0#8 ∧ t.units.cycles = 4)) = true := by decide

/-- 2.3, R214. -/
theorem test_add_hl_byte : gives [0x86] (fun c => { c with a := 0x01#8, h := 0xC1#8, l := 0x00#8 }) [(0xC100, 0xFF#8)]
    (fun t => decide (t.cpu.a = 0x00#8 ∧ t.cpu.f = 0xB0#8 ∧ t.units.cycles = 8)) = true := by decide

/-- 2.3, R216. -/
theorem test_adc : gives [0x88] (fun c => { c with a := 0xE1#8, b := 0x0F#8, f := 0x10#8 }) []
    (fun t => decide (t.cpu.a = 0xF1#8 ∧ t.cpu.f = 0x20#8)) = true := by decide

/-- 2.3, R218. -/
theorem test_adc_d8 : gives [0xCE, 0xFF] (fun c => { c with f := 0x10#8 }) []
    (fun t => decide (t.cpu.a = 0x00#8 ∧ t.cpu.f = 0xB0#8 ∧ t.units.cycles = 8)) = true := by decide

/-- 2.3, R219. -/
theorem test_sub : gives [0x90] (fun c => { c with b := 0x01#8 }) []
    (fun t => decide (t.cpu.a = 0xFF#8 ∧ t.cpu.f = 0x70#8)) = true := by decide

/-- 2.3, R222. -/
theorem test_sbc : gives [0x98] (fun c => { c with b := 0xFF#8, f := 0x10#8 }) []
    (fun t => decide (t.cpu.a = 0x00#8 ∧ t.cpu.f = 0xF0#8)) = true := by decide

/-- 2.3, R225. -/
theorem test_and : gives [0xA0] (fun c => { c with a := 0xF0#8, b := 0x0F#8, f := 0x10#8 }) []
    (fun t => decide (t.cpu.a = 0x00#8 ∧ t.cpu.f = 0xA0#8)) = true := by decide

/-- 2.3, R228. -/
theorem test_xor : gives [0xA8] (fun c => { c with a := 0xFF#8, b := 0x0F#8, f := 0x10#8 }) []
    (fun t => decide (t.cpu.a = 0xF0#8 ∧ t.cpu.f = 0x00#8)) = true := by decide

/-- 2.3, R231. -/
theorem test_or : gives [0xB0] (fun c => { c with a := 0x5A#8, b := 0x0F#8, f := 0x10#8 }) []
    (fun t => decide (t.cpu.a = 0x5F#8 ∧ t.cpu.f = 0x00#8)) = true := by decide

/-- 2.3, R236. -/
theorem test_cp : gives [0xFE, 0x40] (fun c => { c with a := 0x3C#8 }) []
    (fun t => decide (t.cpu.a = 0x3C#8 ∧ t.cpu.f = 0x50#8)) = true := by decide

/-- 2.3, R237. -/
theorem test_inc : gives [0x3C] (fun c => { c with a := 0xFF#8, f := 0x10#8 }) []
    (fun t => decide (t.cpu.a = 0x00#8 ∧ t.cpu.f = 0xB0#8)) = true := by decide

/-- 2.3, R238. -/
theorem test_inc_hl_byte : gives [0x34] (fun c => { c with h := 0xC1#8, l := 0x00#8 }) [(0xC100, 0xFF#8)]
    (fun t => decide (memAt t 0xC100 = 0x00#8 ∧ t.cpu.f = 0xA0#8 ∧ t.units.cycles = 12)) = true := by decide

/-- 2.3, R239. -/
theorem test_dec : gives [0x3D] (fun c => { c with f := 0x10#8 }) []
    (fun t => decide (t.cpu.a = 0xFF#8 ∧ t.cpu.f = 0x70#8)) = true := by decide

/-- 2.3, R240. -/
theorem test_dec_hl_byte : gives [0x35] (fun c => { c with h := 0xC1#8, l := 0x00#8, f := 0x10#8 }) []
    (fun t => decide (memAt t 0xC100 = 0xFF#8 ∧ t.cpu.f = 0x70#8 ∧ t.units.cycles = 12)) = true := by decide

/-- 2.3, R241. -/
theorem test_daa_add : gives [0x27] (fun c => { c with a := 0x9A#8 }) []
    (fun t => decide (t.cpu.a = 0x00#8 ∧ t.cpu.f = 0x90#8)) = true := by decide

/-- 2.3, R241. -/
theorem test_daa_sub : gives [0x27] (fun c => { c with a := 0x4B#8, f := 0x60#8 }) []
    (fun t => decide (t.cpu.a = 0x45#8 ∧ t.cpu.f = 0x40#8)) = true := by decide

/-- 2.3, R242. -/
theorem test_cpl : gives [0x2F] (fun c => { c with a := 0x35#8, f := 0x90#8 }) []
    (fun t => decide (t.cpu.a = 0xCA#8 ∧ t.cpu.f = 0xF0#8)) = true := by decide

/-- 2.3, R243. -/
theorem test_scf : gives [0x37] (fun c => { c with f := 0xE0#8 }) []
    (fun t => decide (t.cpu.f = 0x90#8)) = true := by decide

/-- 2.3, R244. -/
theorem test_ccf : gives [0x3F] (fun c => { c with f := 0xF0#8 }) []
    (fun t => decide (t.cpu.f = 0x80#8)) = true := by decide

/-- 2.4, R251. -/
theorem test_add_hl_rr : gives [0x39] (fun c => { c with h := 0x00#8, l := 0x01#8, sp := 0xFFFF#16, f := 0xC0#8 }) []
    (fun t => decide (t.cpu.hl = 0x0000#16 ∧ t.cpu.f = 0xB0#8 ∧ t.units.cycles = 8)) = true := by decide

/-- 2.4, R252. -/
theorem test_inc_rr : gives [0x03] (fun c => { c with b := 0xFF#8, c := 0xFF#8, f := 0xF0#8 }) []
    (fun t => decide (t.cpu.bc = 0x0000#16 ∧ t.cpu.f = 0xF0#8 ∧ t.units.cycles = 8)) = true := by decide

/-- 2.4, R253. -/
theorem test_dec_rr : gives [0x2B] (fun c => { c with h := 0x10#8, l := 0x00#8 }) []
    (fun t => decide (t.cpu.hl = 0x0FFF#16 ∧ t.units.cycles = 8)) = true := by decide

/-- 2.4, R254. -/
theorem test_add_sp_e8 : gives [0xE8, 0x80] (fun c => { c with sp := 0x0080#16 }) []
    (fun t => decide (t.cpu.sp = 0x0000#16 ∧ t.cpu.f = 0x10#8 ∧ t.units.cycles = 16)) = true := by decide

/-- 2.5, R261. -/
theorem test_rlca : gives [0x07] (fun c => { c with a := 0x85#8, f := 0xF0#8 }) []
    (fun t => decide (t.cpu.a = 0x0B#8 ∧ t.cpu.f = 0x10#8)) = true := by decide

/-- 2.5, R262. -/
theorem test_rla : gives [0x17] (fun c => { c with a := 0x95#8, f := 0x10#8 }) []
    (fun t => decide (t.cpu.a = 0x2B#8 ∧ t.cpu.f = 0x10#8)) = true := by decide

/-- 2.5, R263. -/
theorem test_rrca : gives [0x0F] (fun c => { c with a := 0x3B#8 }) []
    (fun t => decide (t.cpu.a = 0x9D#8 ∧ t.cpu.f = 0x10#8)) = true := by decide

/-- 2.5, R264. -/
theorem test_rra : gives [0x1F] (fun c => { c with a := 0x01#8 }) []
    (fun t => decide (t.cpu.a = 0x00#8 ∧ t.cpu.f = 0x10#8)) = true := by decide

/-- 2.5, R265. -/
theorem test_rlc : gives [0xCB, 0x00] (fun c => { c with b := 0x00#8, f := 0x10#8 }) []
    (fun t => decide (t.cpu.b = 0x00#8 ∧ t.cpu.f = 0x80#8 ∧ t.units.cycles = 8)) = true := by decide

/-- 2.5, R266. -/
theorem test_rlc_hl_byte : gives [0xCB, 0x06] (fun c => { c with h := 0xC1#8, l := 0x00#8 }) [(0xC100, 0x80#8)]
    (fun t => decide (memAt t 0xC100 = 0x01#8 ∧ t.cpu.f = 0x10#8 ∧ t.units.cycles = 16)) = true := by decide

/-- 2.5, R267. -/
theorem test_rrc : gives [0xCB, 0x09] (fun c => { c with c := 0x01#8 }) []
    (fun t => decide (t.cpu.c = 0x80#8 ∧ t.cpu.f = 0x10#8)) = true := by decide

/-- 2.5, R269. -/
theorem test_rl : gives [0xCB, 0x12] (fun c => { c with d := 0x80#8 }) []
    (fun t => decide (t.cpu.d = 0x00#8 ∧ t.cpu.f = 0x90#8)) = true := by decide

/-- 2.5, R271. -/
theorem test_rr : gives [0xCB, 0x1B] (fun c => { c with e := 0x01#8, f := 0x10#8 }) []
    (fun t => decide (t.cpu.e = 0x80#8 ∧ t.cpu.f = 0x10#8)) = true := by decide

/-- 2.5, R273. -/
theorem test_sla : gives [0xCB, 0x24] (fun c => { c with h := 0xFF#8 }) []
    (fun t => decide (t.cpu.h = 0xFE#8 ∧ t.cpu.f = 0x10#8)) = true := by decide

/-- 2.5, R275. -/
theorem test_sra : gives [0xCB, 0x2D] (fun c => { c with l := 0x8A#8 }) []
    (fun t => decide (t.cpu.l = 0xC5#8 ∧ t.cpu.f = 0x00#8)) = true := by decide

/-- 2.5, R277. -/
theorem test_swap : gives [0xCB, 0x37] (fun c => { c with a := 0xF1#8, f := 0xF0#8 }) []
    (fun t => decide (t.cpu.a = 0x1F#8 ∧ t.cpu.f = 0x00#8)) = true := by decide

/-- 2.5, R279. -/
theorem test_srl : gives [0xCB, 0x38] (fun c => { c with b := 0xFF#8 }) []
    (fun t => decide (t.cpu.b = 0x7F#8 ∧ t.cpu.f = 0x10#8)) = true := by decide

/-- 2.5, R281. -/
theorem test_bit : gives [0xCB, 0x7F] (fun c => { c with a := 0x80#8, f := 0x10#8 }) []
    (fun t => decide (t.cpu.a = 0x80#8 ∧ t.cpu.f = 0x30#8 ∧ t.units.cycles = 8)) = true := by decide

/-- 2.5, R282. -/
theorem test_bit_hl_byte : gives [0xCB, 0x5E] (fun c => { c with h := 0xC1#8, l := 0x00#8 }) [(0xC100, 0xF7#8)]
    (fun t => decide (t.cpu.f = 0xA0#8 ∧ t.units.cycles = 12)) = true := by decide

/-- 2.5, R283. -/
theorem test_res : gives [0xCB, 0x87] (fun c => { c with a := 0xFF#8, f := 0xF0#8 }) []
    (fun t => decide (t.cpu.a = 0xFE#8 ∧ t.cpu.f = 0xF0#8)) = true := by decide

/-- 2.5, R286. -/
theorem test_set_hl_byte : gives [0xCB, 0xFE] (fun c => { c with h := 0xC1#8, l := 0x00#8 }) []
    (fun t => decide (memAt t 0xC100 = 0x80#8 ∧ t.units.cycles = 16)) = true := by decide

/-- 2.6, R291. -/
theorem test_jp : gives [0xC3, 0x50, 0x01] (fun c => c) []
    (fun t => decide (t.cpu.pc = 0x0150#16 ∧ t.units.cycles = 16)) = true := by decide

/-- 2.6, R292. -/
theorem test_jp_cc_not_taken : gives [0xC2, 0x00, 0xD0] (fun c => { c with f := 0x80#8 }) []
    (fun t => decide (t.cpu.pc = 0xC003#16 ∧ t.units.cycles = 12)) = true := by decide

/-- 2.6, R292. -/
theorem test_jp_cc_taken : gives [0xDA, 0x00, 0xD0] (fun c => { c with f := 0x10#8 }) []
    (fun t => decide (t.cpu.pc = 0xD000#16 ∧ t.units.cycles = 16)) = true := by decide

/-- 2.6, R293. -/
theorem test_jp_hl : gives [0xE9] (fun c => { c with h := 0xD1#8, l := 0x23#8 }) []
    (fun t => decide (t.cpu.pc = 0xD123#16 ∧ t.units.cycles = 4)) = true := by decide

/-- 2.6, R294. -/
theorem test_jr : gives [0x18, 0x80] (fun c => c) []
    (fun t => decide (t.cpu.pc = 0xBF82#16 ∧ t.units.cycles = 12)) = true := by decide

/-- 2.6, R295. -/
theorem test_jr_cc : gives [0x38, 0xF0] (fun c => { c with f := 0x10#8 }) []
    (fun t => decide (t.cpu.pc = 0xBFF2#16 ∧ t.units.cycles = 12)) = true := by decide

/-- 2.6, R296. -/
theorem test_call : gives [0xCD, 0x34, 0xD2] (fun c => { c with sp := 0xD000#16 }) []
    (fun t => decide (t.cpu.pc = 0xD234#16 ∧ t.cpu.sp = 0xCFFE#16 ∧ memAt t 0xCFFF = 0xC0#8 ∧ memAt t 0xCFFE = 0x03#8 ∧ t.units.cycles = 24)) = true := by decide

/-- 2.6, R297. -/
theorem test_call_cc_not_taken : gives [0xC4, 0x34, 0xD2] (fun c => { c with sp := 0xD000#16, f := 0x80#8 }) []
    (fun t => decide (t.cpu.pc = 0xC003#16 ∧ t.cpu.sp = 0xD000#16 ∧ t.units.cycles = 12)) = true := by decide

/-- 2.6, R298. -/
theorem test_ret : gives [0xC9] (fun c => { c with sp := 0xCFFE#16 }) [(0xCFFE, 0x03#8), (0xCFFF, 0xC0#8)]
    (fun t => decide (t.cpu.pc = 0xC003#16 ∧ t.cpu.sp = 0xD000#16 ∧ t.units.cycles = 16)) = true := by decide

/-- 2.6, R299. -/
theorem test_ret_cc_not_taken : gives [0xC0] (fun c => { c with sp := 0xCFFE#16, f := 0x80#8 }) [(0xCFFE, 0x03#8), (0xCFFF, 0xC0#8)]
    (fun t => decide (t.cpu.pc = 0xC001#16 ∧ t.cpu.sp = 0xCFFE#16 ∧ t.units.cycles = 8)) = true := by decide

/-- 2.6, R299. -/
theorem test_ret_cc_taken : gives [0xD8] (fun c => { c with sp := 0xCFFE#16, f := 0x10#8 }) [(0xCFFE, 0x03#8), (0xCFFF, 0xC0#8)]
    (fun t => decide (t.cpu.pc = 0xC003#16 ∧ t.cpu.sp = 0xD000#16 ∧ t.units.cycles = 20)) = true := by decide

/-- 2.6, R300. -/
theorem test_reti : gives [0xD9] (fun c => { c with sp := 0xCFFE#16 }) [(0xCFFE, 0x03#8), (0xCFFF, 0xC0#8)]
    (fun t => decide (t.cpu.pc = 0xC003#16 ∧ t.cpu.ime = true ∧ t.units.cycles = 16)) = true := by decide

/-- 2.6, R305. -/
theorem test_rst : gives [0xEF] (fun c => { c with sp := 0xD000#16 }) []
    (fun t => decide (t.cpu.pc = 0x0028#16 ∧ memAt t 0xCFFE = 0x01#8 ∧ memAt t 0xCFFF = 0xC0#8 ∧ t.units.cycles = 16)) = true := by decide

/-- 2.7, R322. -/
theorem test_nop : gives [0x00] (fun c => c) []
    (fun t => decide (t.cpu.pc = 0xC001#16 ∧ t.units.cycles = 4)) = true := by decide

/-- 2.7, R323. -/
theorem test_halt : gives [0x76] (fun c => c) []
    (fun t => decide (t.cpu.mode = .halted ∧ t.cpu.pc = 0xC001#16 ∧ t.units.cycles = 4)) = true := by decide

/-- 2.7, R324. -/
theorem test_stop : gives [0x10, 0x00] (fun c => c) []
    (fun t => decide (t.cpu.mode = .stopped ∧ t.cpu.pc = 0xC002#16 ∧ t.units.cycles = 8)) = true := by decide

/-- 2.7, R327. -/
theorem test_di : gives [0xF3] (fun c => { c with imePending := true }) []
    (fun t => decide (t.cpu.ime = false ∧ t.cpu.imePending = false)) = true := by decide

/-- 2.7, R328. -/
theorem test_ei : gives [0xFB] (fun c => c) []
    (fun t => decide (t.cpu.ime = false ∧ t.cpu.imePending = true ∧ t.units.cycles = 4)) = true := by decide

/-- 2.7, R328, the step after EI. -/
theorem test_ei_matures : gives [0x00] (fun c => { c with imePending := true }) []
    (fun t => decide (t.cpu.ime = true ∧ t.cpu.imePending = false)) = true := by decide

/-! ## Interrupts, faults, units -/

/-- Section 2.9, the example of R369: the Timer interrupt is serviced. -/
theorem test_service : stepGives
    { h0 [] (fun c => { c with pc := 0x0150#16, sp := 0xFFFE#16, ime := true }) [] with
      units := { Units.reset with timer := { Timer.reset with intFlag := 0b00100#5, intEnable := 0x05#8 } } }
    (fun t => decide (t.cpu.pc = 0x0050#16 ∧ t.cpu.sp = 0xFFFC#16 ∧ memAt t 0xFFFD = 0x01#8 ∧ memAt t 0xFFFC = 0x50#8 ∧
      t.cpu.ime = false ∧ t.units.timer.intFlag = 0#5 ∧ t.units.cycles = 20)) = true := by decide

/-- VBlank before Timer (R349, R353). -/
theorem test_priority : nextPendingInterrupt { Timer.reset with intFlag := 0b11101#5, intEnable := 0xFF#8 } = some 0 := by
  decide

/-- IE bits 7 to 5 never pend (R349). -/
theorem test_pending_masked : nextPendingInterrupt { Timer.reset with intFlag := 0b00001#5, intEnable := 0xFE#8 } = none := by
  decide

/-- Section 2.7: a halted processor without a pending interrupt idles for 4 cycles and reports Halted. -/
theorem test_halted_idles : gives [0x3C] (fun c => { c with mode := .halted }) []
    (fun t => decide (t.cpu.pc = 0xC000#16 ∧ t.cpu.a = 0x00#8 ∧ t.units.cycles = 4 ∧
      t.outside.outcome = some .halted)) = true := by decide

/-- Section 2.7: with one, and IME = 0, it executes at once (no HALT bug). -/
theorem test_halted_wakes : stepGives
    { h0 [0x3C] (fun c => { c with mode := .halted }) [] with
      units := { (h0 [0x3C] id []).units with
        timer := { Timer.reset with intFlag := 0b00100#5, intEnable := 0x04#8 } } }
    (fun t => decide (t.cpu.a = 0x01#8 ∧ t.cpu.pc = 0xC001#16 ∧ t.units.cycles = 4 ∧ t.cpu.mode = .running ∧
      t.units.timer.intFlag = 0b00100#5)) = true := by decide

/-- Section 2.7: a button wakes a stopped processor. -/
theorem test_stopped_wakes : stepGives
    { h0 [0x3C] (fun c => { c with mode := .stopped }) [] with
      outside := { Outside.reset with latch := { InputLatch.none with a := true } } }
    (fun t => decide (t.cpu.a = 0x01#8 ∧ t.cpu.mode = .running)) = true := by decide

/-- Section 2.7: `EI` then an undefined opcode, the hook answering Resume: the fault does not let EI mature (R328). -/
theorem test_undefined_keeps_pending : stepGives
    { h0 [0xFC] (fun c => { c with imePending := true }) [] with
      outside := { Outside.reset with hookQueue := [.resume] } }
    (fun t => decide (t.cpu.imePending = true ∧ t.cpu.ime = false ∧
      t.outside.outcome = some (.unknownOpcode 0xFC#8) ∧ t.outside.frameOutcome = none)) = true := by decide

/-- R329, the source's example, and R474: PC has advanced by 1, no other register changed, and Abort ends `RunFrame`. -/
theorem test_undefined_abort : stepGives
    { h0 [0xFC] (fun c => { c with a := 0x12#8, f := 0xF0#8 }) [] with
      outside := { Outside.reset with hookQueue := [.abort] } }
    (fun t => decide (t.cpu.pc = 0xC001#16 ∧ t.cpu.a = 0x12#8 ∧ t.cpu.f = 0xF0#8 ∧ t.units.cycles = 4 ∧
      t.outside.outcome = some (.unknownOpcode 0xFC#8) ∧ t.outside.frameOutcome = some .abortedByHost)) = true := by decide

/-- Section 2.8: the reads of the slots at reset. -/
theorem test_io_reads : ([(0xFF00, 0xCF#8), (0xFF04, 0x00#8), (0xFF07, 0xF8#8), (0xFF0F, 0xE0#8), (0xFF41, 0x86#8),
    (0xFF50, 0x01#8), (0xFFFF, 0x00#8), (0xFF01, 0xFF#8), (0xFF46, 0xFF#8), (0xFF7F, 0xFF#8)].all fun x =>
    decide (busRead Config.reset InputLatch.none Units.reset (BitVec.ofNat 16 x.1) = x.2)) = true := by decide

/-- Section 2.8: writes and what reads back. -/
theorem test_io_writes : ([(0xFF0F, 0xFF#8, 0xFF#8), (0xFF07, 0xFF#8, 0xFF#8), (0xFF41, 0xFF#8, 0xFE#8),
    (0xFF44, 0x55#8, 0x00#8), (0xFF04, 0x55#8, 0x00#8), (0xFF00, 0xFF#8, 0xFF#8), (0xFFFF, 0xFF#8, 0xFF#8)].all
    fun x =>
      let addr := BitVec.ofNat 16 x.1
      decide (busRead Config.reset InputLatch.none (busWrite Config.reset addr x.2.1 Units.reset) addr = x.2.2)) = true := by
  decide

/-- S1: the regions at both ends of every range. -/
theorem test_regions : ([(0x0000, Region.bootOverlay), (0x00FF, .bootOverlay), (0x0100, .rom0), (0x3FFF, .rom0),
    (0x4000, .rom1), (0x7FFF, .rom1), (0x8000, .vram), (0x9FFF, .vram), (0xA000, .extRam), (0xBFFF, .extRam),
    (0xC000, .wram), (0xDFFF, .wram), (0xE000, .echo), (0xFDFF, .echo), (0xFE00, .oam), (0xFE9F, .oam),
    (0xFEA0, .unusable), (0xFEFF, .unusable), (0xFF00, .io), (0xFF7F, .io), (0xFF80, .hram), (0xFFFE, .hram),
    (0xFFFF, .ie)].all fun x => decide (region x.1 0x00#8 = x.2)) = true := by decide

/-- S1: without the overlay the first 256 addresses are ROM0. -/
theorem test_region_rom0 : region 0x0000 0x01#8 = .rom0 ∧ region 0x00FF 0x01#8 = .rom0 := by decide

/-- S5: the boot overlay, its end, and its removal. -/
theorem test_boot_overlay :
    let cfg : Config := { Config.reset with
      boot := some [(0x10, 0xBB#8), (0x50, 0xAA#8)], rom := some [(0x10, 0x66#8), (0x50, 0x55#8)] }
    let u : Units := { Units.reset with bus := { Bus.reset with bank := 0x00#8 } }
    let v := busWrite cfg 0xFF50#16 0x01#8 u
    busRead cfg .none u 0x0050#16 = 0xAA#8 ∧ busRead cfg .none u 0x0100#16 = 0x00#8 ∧
      busRead cfg .none (busWrite cfg 0xFF50#16 0x00#8 u) 0x0050#16 = 0xAA#8 ∧ busRead cfg .none v 0x0050#16 = 0x55#8 ∧
      busRead cfg .none v 0x0010#16 = 0x66#8 ∧ busRead cfg .none (busWrite cfg 0xFF50#16 0x80#8 v) 0xFF50#16 = 0x01#8 := by
  decide

/-- S3: TAC = 0b101 written at `cycles` = 4 sets the target 20; TIMA counts there. -/
theorem test_tima : (let u := busWrite Config.reset 0xFF07#16 0x05#8 (ticks 4 Units.reset)
    u.timer.nextTIMACycle = 20 ∧ (ticks 15 u).timer.tima = 0x00#8 ∧ (ticks 16 u).timer.tima = 0x01#8) := by decide

/-- S3: the overflow reloads TMA and requests the Timer interrupt in the same tick. -/
theorem test_tima_overflow : (let u := tick { Units.reset with timer := { Timer.reset with
      tac := 5#3, tima := 0xFF#8, tma := 0x80#8, nextTIMACycle := 1 } }
    u.timer.tima = 0x80#8 ∧ u.timer.intFlag = 0b00100#5 ∧ u.timer.nextTIMACycle = 17) := by decide

/-- S2: the first DIV increment is on the 256th tick. -/
theorem test_div : (ticks 255 Units.reset).timer.div = 0x00#8 ∧ (ticks 256 Units.reset).timer.div = 0x01#8 := by decide

/-- R366: right and A held, both groups selected, then none. -/
theorem test_joypad : let l : InputLatch := { InputLatch.none with right := true, b := true }
    joypNibble l 0b00#2 = 0b1100#4 ∧ joypNibble l 0b10#2 = 0b1110#4 ∧ joypNibble l 0b01#2 = 0b1101#4 ∧
      joypNibble l 0b11#2 = 0b1111#4 := by decide

/-- R367: a press in a selected group requests interrupt 4; a release does not. -/
theorem test_joypad_interrupt :
    (State.reset.refreshLatch { InputLatch.none with start := true }).units.timer.intFlag = 0b10000#5 ∧
    (({ State.reset with outside := { Outside.reset with latch := { InputLatch.none with start := true } } }).refreshLatch
      InputLatch.none).units.timer.intFlag = 0#5 := by decide

/-- R412, R420: the tick that sets dot 80 enters Mode 3. -/
theorem test_mode3 : (ticks 79 Units.reset).ppu.mode = .oamScan ∧ (ticks 80 Units.reset).ppu.mode = .draw ∧
    (ticks 80 Units.reset).bus.vramBlocked = true := by decide

/-- R427: without sprites and with SCX = 0 the line takes 172 ticks; Mode 0 is entered by the tick that sets dot 252. -/
theorem test_mode0 : (ticks 251 Units.reset).ppu.mode = .draw ∧ (ticks 252 Units.reset).ppu.mode = .hblank := by decide

/-- R444: shades through a palette. -/
theorem test_shade : shadeOf 0xE4#8 0#2 = 0#2 ∧ shadeOf 0xE4#8 3#2 = 3#2 ∧ shadeOf 0x1B#8 0#2 = 3#2 := by decide

/-- R50: Mode 3 starts with the fetcher's latches at their reset values. -/
theorem test_mode3_latches : (let u := tick { Units.reset with
      cycles := 79, ppu := { Ppu.reset with tileNo := 0x11#8, tileLo := 0x22#8, tileHi := 0x33#8 } }
    u.ppu.mode = .draw ∧ u.ppu.tileNo = 0x00#8 ∧ u.ppu.tileLo = 0x00#8 ∧ u.ppu.tileHi = 0x00#8) := by decide

/-! ## The parameters of R8 -/

/-- R11: a cartridge other than the minimal one takes a bank-select write; the minimal one and none do not. -/
theorem test_cartWrite :
    let other : Config := { Config.reset with rom := some [], cartridge := .other }
    (busWrite other 0x2000#16 0x05#8 Units.reset).bus.cart = [⟨0x2000#16, 0x05#8⟩] ∧
      (busWrite { other with cartridge := .minimal } 0x2000#16 0x05#8 Units.reset).bus.cart = [] ∧
      (busWrite Config.reset 0x2000#16 0x05#8 Units.reset).bus.cart = [] := by decide

/-- R130: an entry left empty is an undefined opcode, on either page; the others stay, and 0xCB stays the prefix. -/
theorem test_decodeWith :
    let t : DispatchTable := { base := [(0x00#8, .empty), (0x40#8, .operation 0x3C#8), (0xCB#8, .empty)], cb := [(0x37#8, .empty)] }
    decodeWith t [0x00#8] = .ok (.undefined 0x00#8, []) ∧ decodeWith t [0x40#8] = .ok (.inc_A, []) ∧
      decodeWith t [0xCB#8, 0x37#8, 0x00#8] = .ok (.undefined 0x37#8, [0x00#8]) ∧
      decodeWith t [0xCB#8, 0x11#8] = .ok (.rl_C, []) ∧ decodeWith t [0xFC#8] = .ok (.undefined 0xFC#8, []) :=
  ⟨rfl, rfl, rfl, rfl, rfl⟩

/-- R130, R341: the step that meets an empty entry reports it, PC one further and A as before. -/
theorem test_dispatch_empty :
    let s := h0 [0x3C] id []
    stepGives { s with
      outside := { Outside.reset with hookQueue := [.resume] }
      cfg := { s.cfg with dispatch := { base := [(0x3C#8, .empty)], cb := [] } } } (fun t =>
      decide (t.outside.outcome = some (.unknownOpcode 0x3C#8) ∧ t.cpu.a = s.cpu.a ∧ t.cpu.pc = s.cpu.pc + 1#16)) = true := by
  decide

/-! ## The placing of an instruction -/

/-- After reset the placed instruction is the one the next step runs: `LD B,d8` with a zero operand word. -/
theorem test_withFetchWord : stepGives ({ State.reset with cpu := { Cpu.reset with b := 0x77#8 } }.withFetchWord 16 0x0600)
    (fun t => decide (t.cpu.b = 0x00#8 ∧ t.cpu.pc = 0x0102#16)) = true := by decide

/-- The same with PC in the I/O registers: the instruction is placed in WRAM. -/
theorem test_withFetchWord_moved :
    stepGives ({ State.reset with cpu := { Cpu.reset with pc := 0xFF7F#16 } }.withFetchWord 16 0xCB37)
    (fun t => decide (t.cpu.a = 0x10#8 ∧ t.cpu.pc = 0xC002#16)) = true := by decide

/-! ## Witnesses: states and operands that meet the hypotheses of the obligations -/

/-- A line's last tick before line `line`: the counter one below `456 * line`, in the mode of the line before. -/
def lineEnd (line : Nat) (mode : PpuMode) (nextDIV : Nat) (lyc : Byte) : Units :=
  { Units.reset with
    cycles := (456 * line + 70223) % 70224
    timer := { Timer.reset with ly := BitVec.ofNat 8 ((line + 153) % 154), nextDIVCycle := nextDIV, lyc := lyc }
    bus := { Bus.reset with oamBlocked := false }
    ppu := { Ppu.reset with mode := mode, statEnable := 0b1111#4, lcdX := 160, frameReady := decide (mode = .vblank) } }

/-- The step's first four T-states begin at the last multiple of 4 of the frame. -/
def frameTail : Units :=
  { lineEnd 0 .vblank 96 0x00#8 with cycles := 70220 }

theorem witness_Units_Inv_line1 : (lineEnd 1 .hblank 512 0x01#8).Inv := by constructor <;> decide

theorem witness_Units_Inv_line144 : (lineEnd 144 .hblank 65792 0x90#8).Inv := by constructor <;> decide

theorem witness_Units_Inv_line0 : (lineEnd 0 .vblank 176 0x00#8).Inv := by constructor <;> decide

theorem witness_Units_Inv_frameTail : frameTail.Inv := by constructor <;> decide

/-- LyTimeline at the wrap, and LineEvents in each of its clauses: lines 0, 1 (LYC = 1) and 144 (LYC = 144). -/
theorem witness_LineEvents :
    (((lineEnd 0 .vblank 176 0x00#8).cycles + 1) % 456 = 0 ∧ ((lineEnd 0 .vblank 176 0x00#8).cycles + 1) % 70224 / 456 = 0) ∧
    (((lineEnd 1 .hblank 512 0x01#8).cycles + 1) % 456 = 0 ∧
      (lineEnd 1 .hblank 512 0x01#8).timer.lyc.toNat = ((lineEnd 1 .hblank 512 0x01#8).cycles + 1) % 70224 / 456 ∧
      (lineEnd 1 .hblank 512 0x01#8).ppu.statEnable = 0b1111#4) ∧
    (((lineEnd 144 .hblank 65792 0x90#8).cycles + 1) % 456 = 0 ∧
      ((lineEnd 144 .hblank 65792 0x90#8).cycles + 1) % 70224 / 456 = 144) := by decide

/-- Dot 79 of line 0, the last tick of Mode 2. -/
def scanEnd : Units := { Units.reset with cycles := 79 }

/-- Line 0 with all 160 pixels out. -/
def lineDrawn : Units :=
  { Units.reset with
    cycles := 251
    bus := { Bus.reset with vramBlocked := true }
    ppu := { Ppu.reset with mode := .draw, lcdX := 160, statEnable := 0b0001#4 } }

/-- LineEvents at dot 80, and at the end of Mode 3. -/
theorem witness_LineEvents_draw : scanEnd.Inv ∧ (scanEnd.cycles + 1) % 456 = 80 ∧ (scanEnd.cycles + 1) % 70224 / 456 < 144 :=
  ⟨by constructor <;> decide, by decide, by decide⟩

theorem witness_LineEvents_hblank : lineDrawn.Inv ∧ (lineDrawn.cycles + 1) % 456 ≠ 0 ∧ lineDrawn.ppu.mode = .draw ∧
    lineDrawn.ppu.lcdX = 160 ∧ lineDrawn.ppu.statEnable.getLsbD 0 = true :=
  ⟨by constructor <;> decide, by decide, rfl, rfl, by decide⟩

/-- InvariantPreserved, with a program in WRAM and a button held. -/
theorem witness_InvariantPreserved :
    { h0 [0x3C] (fun c => { c with f := 0xF0#8, ime := true }) [(0xFF80, 0x01#8)] with
      outside := { Outside.reset with latch := { InputLatch.none with a := true } } }.Inv where
  units := by constructor <;> decide
  cfg := by constructor <;> decide
  flags_low := by decide
  cycles_aligned := by decide
  done_aborted := by decide
  overlay := by decide
  pending := by decide

/-- FrameEnd: a NOP that starts in the last machine cycle of the frame completes it. -/
def frameTailState : State :=
  { h0 [0x00] id [] with units := { frameTail with bus := { (h0 [0x00] id []).units.bus with oamBlocked := false } } }

theorem witness_FrameEnd : frameTailState.Inv where
  units := by constructor <;> decide
  cfg := by constructor <;> decide
  flags_low := by decide
  cycles_aligned := by decide
  done_aborted := by decide
  overlay := by decide
  pending := by decide

theorem witness_FrameEnd_step : frameTailState.units.frameDone = false ∧ stepGives frameTailState (fun t =>
    decide (t.outside.frameOutcome = some .completed ∧ t.units.cycles = 0)) = true := by decide

/-- FrameEnd, R474: `frameDone` left set by an abort, before a NOP and before an undefined opcode the host aborts. -/
def abortedState (op : Nat) : State :=
  let s := h0 [op] id []
  { s with
    units := { s.units with frameDone := true }
    outside := { Outside.reset with hookQueue := [.abort], frameOutcome := some .abortedByHost } }

theorem abortedState_inv (op : Nat) (h : op = 0x00 ∨ op = 0xFC) : (abortedState op).Inv := by
  obtain rfl | rfl := h <;>
  exact {
    units := by constructor <;> decide
    cfg := by constructor <;> decide
    flags_low := by decide
    cycles_aligned := by decide
    done_aborted := by decide
    overlay := by decide
    pending := by decide }

theorem witness_FrameEnd_after_abort : (abortedState 0x00).Inv ∧ (abortedState 0x00).units.frameDone = true ∧
    stepGives (abortedState 0x00) (fun t => decide (t.outside.frameOutcome = some .completed ∧
      t.units.frameDone = false ∧ t.units.cycles = 4)) = true :=
  ⟨abortedState_inv _ (.inl rfl), rfl, by decide⟩

theorem witness_FrameEnd_abort_again : (abortedState 0xFC).Inv ∧ (abortedState 0xFC).units.frameDone = true ∧
    stepGives (abortedState 0xFC) (fun t => decide (t.outside.frameOutcome = some .abortedByHost ∧
      t.units.frameDone = true)) = true :=
  ⟨abortedState_inv _ (.inr rfl), rfl, by decide⟩

theorem witness_InvariantAtPowerOn : Memory.wf [(0x8000, 0x01#8), (0xDFFF, 0xFF#8), (0xFFFE, 0x02#8)] = true ∧
    Memory.inRam [(0x8000, 0x01#8), (0xDFFF, 0xFF#8), (0xFFFE, 0x02#8)] = true := by decide

/-- The images of R9 at the boundary of their sizes. -/
def launch (boot cart : Nat) : Launch where
  bootFile := some (List.replicate boot 0x00#8)
  cartFile := some (List.replicate cart 0x00#8)
  cartridge := .minimal
  dispatch := DispatchTable.default
  eiDelay := true
  ioImplemented := IoReg.default
  mem := []
  a := 0x11#8
  f := 0xFF#8
  b := 0x22#8
  c := 0x33#8
  d := 0x44#8
  e := 0x55#8
  h := 0x66#8
  l := 0x77#8
  sp := 0x8888#16

theorem witness_PowerOnValues : (State.powerOn (launch 256 0)).cfg.boot.isSome = true ∧
    (State.powerOn (launch 255 0)).cfg.boot.isSome = false ∧ (State.powerOn (launch 257 0)).cfg.boot.isSome = false := by
  decide

theorem launch_rom (boot cart : Nat) : (State.powerOn (launch boot cart)).cfg.rom.isSome = decide (32768 ≤ cart) := by
  show (Launch.rom (launch boot cart)).isSome = _
  unfold Launch.rom launch
  simp only [List.length_replicate]
  split <;> simp [*]

theorem witness_PowerOnValues_cart : (State.powerOn (launch 0 32768)).cfg.rom.isSome = true ∧
    (State.powerOn (launch 0 32767)).cfg.rom.isSome = false := by
  rw [launch_rom, launch_rom]
  decide

theorem witness_ResetIsPowerOn : ∃ x : Launch, x.bootFile = none ∧ x.cartFile = none ∧ x.cartridge = .minimal ∧
    x.dispatch = DispatchTable.default ∧ x.eiDelay = true ∧ x.ioImplemented = IoReg.default ∧ x.mem = [] :=
  ⟨{ launch 0 0 with bootFile := none, cartFile := none }, rfl, rfl, rfl, rfl, rfl, rfl, rfl⟩

theorem witness_UndefinedOpcode : (Instr.undefined 0xD3#8).wf = true ∧ (Instr.undefined 0xFD#8).wf = true := by decide

theorem witness_ProcessorControl : State.reset.outside.outcome = none ∧ (∃ t, exec .halt State.reset = .next t) ∧
    ∃ t, exec (.stop 0x00#8) State.reset = .next t := ⟨rfl, ⟨_, exec_eq _ _⟩, ⟨_, exec_eq _ _⟩⟩

theorem witness_DecodeOfEncode : (Instr.jp_a16 0xFFFF#16).wf = true ∧ (Instr.undefined 0xFC#8).wf = true := by decide

theorem witness_EncodeOfDecode : decode [0x10#8, 0xA5#8, 0x76#8] = .ok (.stop 0xA5#8, [0x76#8]) := rfl

theorem witness_DecoderTotal : decode (0xD3#8 :: [0x00#8]) = .ok (.undefined 0xD3#8, [0x00#8]) := rfl

/-- StepRunsDecoded: the three bytes of a jump at PC. -/
theorem witness_StepRunsDecoded : let s := h0 [0xC3, 0x50, 0x01] id []
    s.beginFrame.interruptTaken = none ∧ s.beginFrame.asleep = false ∧
      (State.fetchBytes 3 s.beginFrame.awake).1 = [0xC3#8, 0x50#8, 0x01#8] := by decide

theorem witness_StepRunsDecoded_decode :
    decodeWith (h0 [0xC3, 0x50, 0x01] id []).cfg.dispatch [0xC3#8, 0x50#8, 0x01#8] = .ok (.jp_a16 0x0150#16, []) := rfl

/-- StepAlwaysCompletes and CycleCost at both ends of the counter. -/
theorem witness_CycleCost : State.reset.units.cycles < frameCycles ∧ frameTail.cycles < frameCycles ∧
    ∃ t, exec (Form.callCond .nz 0x1234#16).instr State.reset = .next t := ⟨by decide, by decide, _, exec_eq _ _⟩

/-- FlagTable, ProcessorFrame: a next state, and a register the instruction does not write. -/
theorem witness_ProcessorFrame : (∃ t, exec (Form.aluReg .cp .b).instr State.reset = .next t) ∧
    Reg8.a ∉ (Form.aluReg .cp .b).writesRegs ∧ Reg8.b ∉ (Form.aluReg .add .b).writesRegs :=
  ⟨⟨_, exec_eq _ _⟩, by decide, by decide⟩

/-- MemoryFrame: PUSH with the stack at the bottom of WRAM, the byte next to the stored ones and a byte no store reaches;
no special register is stored to. -/
theorem witness_MemoryFrame :
    (Form.push .bc).stores { Cpu.reset with sp := 0xC002#16 } = [0xC001#16, 0xC000#16] ∧
    (∀ w ∈ [0xC001#16, 0xC000#16], ramKey w.toNat ≠ ramKey (0xC002#16).toNat ∧ ramKey w.toNat ≠ ramKey (0x0000#16).toNat) ∧
    ∀ w ∈ [0xC001#16, 0xC000#16], w.toNat < 0xFF00 ∨ 0xFF80 ≤ w.toNat ∧ w.toNat ≤ 0xFFFE := by
  simp only [List.forall_mem_cons, List.not_mem_nil, false_implies, implies_true, and_true]
  decide

/-- MemoryFrame's second clause at the bounds of HRAM. -/
theorem witness_MemoryFrame_hram : (Form.ldhImmA 0x80#8).stores Cpu.reset = [0xFF80#16] ∧
    (Form.ldhImmA 0xFE#8).stores Cpu.reset = [0xFFFE#16] ∧
    ∀ w ∈ [0xFF80#16, 0xFFFE#16], w.toNat < 0xFF00 ∨ 0xFF80 ≤ w.toNat ∧ w.toNat ≤ 0xFFFE := by
  simp only [List.forall_mem_cons, List.not_mem_nil, false_implies, implies_true, and_true]
  decide

theorem witness_TimeFrame : (Form.callCond .z 0x1234#16).stores Cpu.reset = [] ∧ (Form.pop .af).stores Cpu.reset = [] ∧
    ∃ t, exec (Form.pop .af).instr State.reset = .next t := ⟨by decide, by decide, _, exec_eq _ _⟩

/-- RegionRules: both ends of the overlay, of the cartridge's regions without it, and of every other region. -/
theorem witness_RegionRules :
    ([0x0000#16, 0x00FF#16].all fun w => decide (w.toNat ≤ 0x00FF ∧ ({ Bus.reset with bank := 0x00#8 }).bank = 0x00#8)) ∧
    ([0x0000#16, 0x3FFF#16].all fun w => decide (w.toNat ≤ 0x3FFF ∧ ¬(w.toNat ≤ 0x00FF ∧ Bus.reset.bank = 0x00#8))) ∧
    ([0x0100#16].all fun w => decide (w.toNat ≤ 0x3FFF ∧ ¬(w.toNat ≤ 0x00FF ∧ (0x00#8 : Byte) = 0x00#8))) ∧
    ([(0x4000, 0x7FFF), (0x8000, 0x9FFF), (0xA000, 0xBFFF), (0xC000, 0xDFFF), (0xE000, 0xFDFF), (0xFE00, 0xFE9F),
      (0xFEA0, 0xFEFF), (0xFF80, 0xFFFE), (0xFFFF, 0xFFFF)].all fun (lo, hi) =>
        decide ((BitVec.ofNat 16 lo).toNat = lo ∧ (BitVec.ofNat 16 hi).toNat = hi ∧ lo ≤ hi)) := by decide

/-- RegionRules: no cartridge, the minimal one, any other. -/
theorem witness_RegionRules_cartridge : Config.reset.rom = none ∧
    (∃ c : Config, c.boot = some [] ∧ c.rom = some [] ∧ c.cartridge = .minimal) ∧
    ∃ c : Config, c.rom = some [] ∧ c.cartridge = .other :=
  ⟨rfl, ⟨{ Config.reset with boot := some [], rom := some [] }, rfl, rfl, rfl⟩,
    { Config.reset with rom := some [], cartridge := .other }, rfl, rfl⟩

/-- IoRegisterFile: every slot is implemented by default; 0xFF01 and 0xFF7F never are; 0xFF00 is not where the parameter
leaves it out. -/
theorem witness_IoRegisterFile : (IoReg.default.all fun r => Config.reset.ioImplemented.contains r) = true ∧
    IoReg.default.length = 16 ∧ ioRegAt 0xFF01 = none ∧ ioRegAt 0xFF7F = none ∧
    ({ Config.reset with ioImplemented := [] }).ioImplemented.contains IoReg.joyp = false := by decide

/-- IoRegisterFile, the TAC write: an enable restarts the period, and so does a change of rate; the same value does not. -/
theorem witness_IoRegisterFile_tac :
    ((5#3).getLsbD 2 = true ∧ (1#3).getLsbD 2 = false) ∧ ((5#3).getLsbD 2 = true ∧ (4#3).toNat % 4 ≠ (5#3).toNat % 4) ∧
    ¬((5#3).getLsbD 2 = true ∧ ((5#3).getLsbD 2 = false ∨ (5#3).toNat % 4 ≠ (5#3).toNat % 4)) := by decide

/-- WorkRamReadBack at the ends of WRAM, of its echo and of HRAM. -/
theorem witness_WorkRamReadBack : Rule.plainRam 0xC000#16 ∧ Rule.plainRam 0xDDFF#16 ∧ Rule.plainRam 0xDFFF#16 ∧
    Rule.plainRam 0xFF80#16 ∧ Rule.plainRam 0xFFFE#16 ∧ (0xDDFF#16).toNat ≤ 0xDDFF ∧
    0xFDFF#16 = 0xDDFF#16 + 0x2000#16 ∧ Memory.wf State.reset.units.bus.mem = true := by
  unfold Rule.plainRam
  decide

/-- BootOverlayRemoved: a machine with both images and BANK = 0, with each kind of cartridge. -/
theorem witness_BootOverlayRemoved : ∀ kind : CartridgeKind, ∃ s : State, s.cfg.boot = some [] ∧ s.cfg.rom = some [] ∧
    s.cfg.ioImplemented.contains IoReg.bank = true ∧ s.units.bus.bank = 0x00#8 ∧ s.cfg.cartridge = kind := fun kind =>
  ⟨{ State.reset with
      units := { Units.reset with bus := { Bus.reset with bank := 0x00#8 } }
      cfg := { Config.reset with boot := some [], rom := some [], cartridge := kind } },
    rfl, rfl, by show IoReg.default.contains IoReg.bank = true; decide, rfl, rfl⟩

theorem witness_BootOverlayRemoved_step : State.reset.units.bus.bank ≠ 0x00#8 ∧ ∃ t, step State.reset = .next t :=
  ⟨by decide, _, step_eq _⟩

/-- RegisterViews: a stack pair other than AF. -/
theorem witness_RegisterViews : StkPair.hl ≠ .af := by decide

/-- InterruptPriority: the highest and the lowest, and none. -/
theorem witness_InterruptPriority :
    nextPendingInterrupt { Timer.reset with intFlag := 0b10001#5, intEnable := 0x1F#8 } = some 0 ∧
    nextPendingInterrupt { Timer.reset with intFlag := 0b10001#5, intEnable := 0x10#8 } = some 4 ∧
    nextPendingInterrupt { Timer.reset with intFlag := 0b11111#5, intEnable := 0x00#8 } = none := by decide

/-- InterruptService: the Joypad interrupt, requested by the refresh that begins the frame. -/
theorem witness_InterruptService : ({ State.reset with
    cpu := { Cpu.reset with ime := true }
    units := { Units.reset with timer := { Timer.reset with intEnable := 0x10#8 } }
    outside := { Outside.reset with latchQueue := [{ InputLatch.none with up := true }] } }.beginFrame.interruptTaken) =
      some 4 := by decide

/-- ServiceThenReti and StackRoundTrip: the stack at the top of HRAM, and at the bottom of WRAM. -/
theorem witness_StackRoundTrip : Rule.plainRam (0xFFFF#16 - 1#16) ∧ Rule.plainRam (0xFFFF#16 - 2#16) ∧
    Rule.plainRam (0xC002#16 - 1#16) ∧ Rule.plainRam (0xC002#16 - 2#16) ∧ State.reset.cpu.f &&& 0x0F#8 = 0#8 ∧
    Memory.wf State.reset.units.bus.mem = true := by
  unfold Rule.plainRam
  decide

/-- ServiceThenReti: the stack at the top of HRAM. -/
theorem witness_ServiceThenReti : Memory.wf State.reset.units.bus.mem = true ∧
    Rule.plainRam (State.reset.cpu.sp - 1#16) ∧ Rule.plainRam (State.reset.cpu.sp - 2#16) := by
  unfold Rule.plainRam
  decide

/-- LyTimeline: the last machine cycle of a frame. -/
theorem witness_LyTimeline : frameTail.Inv := witness_Units_Inv_frameTail

/-- RegionPartition: the two ends of the address space. -/
theorem witness_RegionPartition : (0 : Nat) ≤ 0xFFFF ∧ region 0 0x00#8 = .bootOverlay ∧ region 0xFFFF 0x00#8 = .ie := by
  decide

/-- FlagTable: an instruction that writes flags and one that keeps them both answer a next state. -/
theorem witness_FlagTable : (∃ t, exec (Form.aluReg .add .b).instr State.reset = .next t) ∧
    ∃ t, exec (Form.ldRegReg .b .c).instr State.reset = .next t := ⟨⟨_, rfl⟩, ⟨_, rfl⟩⟩

/-- HaltedAndStopped: asleep and awake in both modes. -/
theorem witness_HaltedAndStopped :
    ([RunMode.halted, .stopped].all fun m =>
      let s := h0 [] (fun c => { c with mode := m }) []
      decide (s.beginFrame.interruptTaken = none ∧ s.beginFrame.cpu.mode = m ∧
        s.beginFrame.units.timer.intFlag &&& s.beginFrame.units.timer.intEnable.setWidth 5 = 0#5 ∧
        s.beginFrame.outside.latch.anyPressed = false)) = true := by decide

theorem witness_HaltedAndStopped_wake : let s := { State.reset with
      cpu := { Cpu.reset with mode := .stopped }
      units := { Units.reset with timer := { Timer.reset with intFlag := 0b10000#5, intEnable := 0x10#8 } }
      outside := { Outside.reset with latch := { InputLatch.none with select := true } } }
    s.beginFrame.interruptTaken = none ∧ s.beginFrame.outside.latch.select = true ∧
      s.beginFrame.units.timer.intFlag &&& s.beginFrame.units.timer.intEnable.setWidth 5 ≠ 0#5 := by decide

/-- EiDelay: a step that runs `EI`. -/
theorem witness_EiDelay : let s := h0 [0xFB] id []
    s.cfg.eiDelay = true ∧ s.cpu.ime = false ∧ s.beginFrame.interruptTaken = none ∧ s.beginFrame.asleep = false ∧
      s.beginFrame.awake.fetchForm.1 = .ei ∧ s.cpu.imePending = false := by decide

theorem witness_EiDelay_step : ∃ t, step (h0 [0xFB] id []) = .next t := ⟨_, step_eq _⟩

/-- EiDelay's last clauses: an outcome that is no undefined opcode, and one that is. -/
theorem witness_EiDelay_finish : (∀ code, State.reset.outside.outcome ≠ some (.unknownOpcode code)) ∧
    ∃ t : State, t.outside.outcome = some (.unknownOpcode 0xFC#8) :=
  ⟨fun _ h => (nomatch h), State.reset.report (some (.unknownOpcode 0xFC#8)), rfl⟩

theorem witness_FaultHook : ∃ s : State, s.outside.outcome = some (.unknownOpcode 0xFC#8) ∧
    s.outside.hookQueue = .abort :: [.resume] :=
  ⟨{ State.reset with outside := { Outside.reset with
      outcome := some (.unknownOpcode 0xFC#8), hookQueue := [.abort, .resume] } }, rfl, rfl⟩

/-- FaultHook, nothing queued. -/
theorem witness_FaultHook_free : ∃ s : State, s.outside.outcome = some (.unknownOpcode 0xFC#8) ∧ s.outside.hookQueue = [] :=
  ⟨State.reset.report (some (.unknownOpcode 0xFC#8)), rfl, rfl⟩

/-- JoypadLines: a refresh under which line 3 falls, and one under which none does. -/
theorem witness_JoypadLines : ((joypNibble InputLatch.none 0b00#2).getLsbD 3 = true ∧
      (joypNibble { InputLatch.none with down := true } 0b00#2).getLsbD 3 = false) ∧
    (∀ i < 4, (joypNibble { InputLatch.none with down := true } 0b00#2).getLsbD i = true →
      (joypNibble InputLatch.none 0b00#2).getLsbD i = true) := by decide

/-- DivCadence: the farthest and the nearest target, across the frame boundary. -/
theorem witness_DivCadence : Units.reset.timer.nextDIVCycle = (Units.reset.cycles + 256) % 70224 ∧
    (lineEnd 0 .vblank 0 0x00#8).timer.nextDIVCycle = ((lineEnd 0 .vblank 0 0x00#8).cycles + 1) % 70224 := by decide

/-- TimaCadence: the four rates of an enabled timer at its full period, TIMA at 0xFF and not. -/
theorem witness_TimaCadence :
    ([(4#3, 1024), (5#3, 16), (6#3, 64), (7#3, 256)].all fun x =>
      let t : Timer := { Timer.reset with tac := x.1, tima := 0xFF#8, nextTIMACycle := x.2 }
      t.tac.getLsbD 2 && decide (t.nextTIMACycle = (0 + x.2) % 70224) &&
        decide (t.tac.toNat % 4 = 0 ∧ x.2 = 1024 ∨ t.tac.toNat % 4 = 1 ∧ x.2 = 16 ∨ t.tac.toNat % 4 = 2 ∧ x.2 = 64 ∨
          t.tac.toNat % 4 = 3 ∧ x.2 = 256)) = true := by decide

/-- TimaCadence, the disabled timer at its own target. -/
theorem witness_TimaCadence_disabled : ({ Timer.reset with tac := 3#3, nextTIMACycle := 1 }).tac.getLsbD 2 = false := by
  decide

/-- ScanFirstTen: at line 0 the entry with Y = 16 is taken, those with Y = 17 and Y = 8 are not (8-line sprites). -/
theorem witness_ScanFirstTen : scanOam { Units.reset with bus := { Bus.reset with
      mem := [(0xFE00, 0x11#8), (0xFE04, 0x10#8), (0xFE08, 0x08#8), (0xFE9C, 0x09#8)] } } =
    [{ index := 1, fetched := false }, { index := 39, fetched := false }] := by decide

/-- PixelOutput: an opaque sprite pixel over background colour 0, and one hidden behind colour 1. -/
theorem witness_PixelOutput :
    let bg (n : BitVec 2) : FifoEntry := { colorIndex := n, paletteBit := false, priorityBit := decide (n ≠ 0#2) }
    let sp : FifoEntry := { colorIndex := 2#2, paletteBit := true, priorityBit := true }
    let p (n : BitVec 2) : Ppu := { Ppu.reset with
      bgFifo := [bg n], spriteFifo := [sp], blankFrame := false, bgp := 0xE4#8, obp1 := 0x1B#8 }
    (outputPixel { Units.reset with ppu := p 0#2 }).ppu.lcd = [(0, 1#2)] ∧
      (outputPixel { Units.reset with ppu := p 1#2 }).ppu.lcd = [(0, 1#2)] ∧
      (outputPixel { Units.reset with ppu := { p 3#2 with spriteFifo := [] } }).ppu.lcd = [(0, 3#2)] := by decide

/-- DecimalAddition at its bounds: 99 + 99 + 1 = 199. -/
theorem witness_DecimalAddition : (add8 0x99#8 0x99#8 true).value = 0x33#8 ∧
    (daa8 0x33#8 false true true).value = 0x99#8 ∧ (daa8 0x33#8 false true true).c = true := by decide

end

end Sys2Proof.Tests
end

section
/-! PROOFS. What an instruction does to the units, with the addresses it stores to (`StoresAt`): the frame of memory
(O32). -/

namespace Sys2Proof.Machine

/-- The units after `n` machine cycles from `u` on, each of them four ticks, some of them followed by a bus write at one
of the addresses `ws`: `Evolves` with the stores named. -/
inductive StoresAt (cfg : Config) (ws : List Word) (u : Units) : Nat → Units → Prop where
  | refl : StoresAt cfg ws u 0 u
  | idle {n : Nat} {v : Units} : StoresAt cfg ws u n v → StoresAt cfg ws u (n + 1) (ticks 4 v)
  | write {n : Nat} {v : Units} {w : Word} (b : Byte) (hw : w ∈ ws) :
      StoresAt cfg ws u n v → StoresAt cfg ws u (n + 1) (busWrite cfg w b (ticks 4 v))

section
variable {cfg : Config} {ws : List Word} {u v : Units} {n : Nat}

/-- `Push16` stores at the two addresses below SP (R18). -/
theorem StoresAt.push16 {s : State} (val : Word) (h1 : s.cpu.sp - 1#16 ∈ ws) (h2 : s.cpu.sp - 2#16 ∈ ws)
    (h : StoresAt s.cfg ws u n s.units) : StoresAt s.cfg ws u (n + 2) (s.push16 val).units := by
  have e : s.cpu.sp - 1#16 - 1#16 = s.cpu.sp - 2#16 := by bv_omega
  rw [State.push16_units, e]
  exact (h.write _ h1).write _ h2

/-- An internal memory byte that none of the addresses reaches reads as before. -/
theorem StoresAt.read_other {k : Nat} (h : StoresAt cfg ws u n v) (hk : ∀ w ∈ ws, ramKey w.toNat ≠ some k) :
    Memory.read v.bus.mem k = Memory.read u.bus.mem k := by
  induction h with
  | refl => rfl
  | idle _ ih => rw [ticks_mem, ih]
  | write b hw _ ih => rw [busWrite_read_other _ _ _ _ (hk _ hw), ticks_mem, ih]

/-- Where none of the addresses is the cartridge's, the cartridge's state stays (R11). -/
theorem StoresAt.cart (h : StoresAt cfg ws u n v)
    (hc : ∀ w ∈ ws, ¬(w.toNat ≤ 0x7FFF ∨ 0xA000 ≤ w.toNat ∧ w.toNat ≤ 0xBFFF)) : v.bus.cart = u.bus.cart := by
  have hticks : ∀ v : Units, (ticks 4 v).bus.cart = v.bus.cart := fun v => congrArg Held.cart (ticks_held 4 v)
  induction h with
  | refl => rfl
  | idle _ ih => rw [hticks, ih]
  | write b hw _ ih => rw [busWrite_cart _ _ _ _ (hc _ hw), hticks, ih]

/-- A bus write outside the I/O registers and IE leaves every special register alone (R75). -/
theorem busWrite_held (cfg : Config) {w : Word} (b : Byte) (u : Units) (m : Memory) (c : List CartWrite)
    (hw : w.toNat < 0xFF00 ∨ 0xFF80 ≤ w.toNat ∧ w.toNat ≤ 0xFFFE) :
    { (busWrite cfg w b u).held with mem := m, cart := c } = { u.held with mem := m, cart := c } := by
  obtain e | ⟨-, e⟩ | ⟨k, -, e⟩ | ⟨r, hlo, hhi, -⟩ | ⟨hie, -⟩ := busWrite_cases cfg w b u
  · rw [e]
  · rw [e]; rfl
  · rw [e]; rfl
  · omega
  · omega

/-- Where none of the addresses is an I/O register or IE, only the memories and the cartridge's state may change of what
the processor's writes change. -/
theorem StoresAt.held (h : StoresAt cfg ws u n v)
    (hw : ∀ w ∈ ws, w.toNat < 0xFF00 ∨ 0xFF80 ≤ w.toNat ∧ w.toNat ≤ 0xFFFE) :
    { v.held with mem := u.held.mem, cart := u.held.cart } = u.held := by
  induction h with
  | refl => rfl
  | idle _ ih => rw [ticks_held, ih]
  | write b hm _ ih => rw [busWrite_held _ _ _ _ _ (hw _ hm), ticks_held, ih]

end

/-- An instruction takes the units through its machine cycles (R510), storing at its own addresses only. -/
theorem run_storesAt (f : Form) (s : State) :
    StoresAt s.cfg (f.stores s.cpu) s.units (tailCycles f s.cpu) (f.run s).units := by
  have e0 : ∀ ws, StoresAt s.cfg ws s.units 0 s.units := fun _ => .refl
  have e1 : ∀ ws, StoresAt s.cfg ws s.units 1 s.idle.units := fun ws => (e0 ws).idle
  have e2 : ∀ ws, StoresAt s.cfg ws s.units 2 s.idle.idle.units := fun ws => (e1 ws).idle
  have fst : ∀ (w : Word) (ws : List Word), w ∈ w :: ws := fun w ws => List.mem_cons_self
  have snd : ∀ w w' : Word, w ∈ [w', w] := fun w w' => List.mem_cons_of_mem _ (fst w [])
  have call : StoresAt s.cfg [s.cpu.sp - 1#16, s.cpu.sp - 2#16] s.units 3 (s.idle.push16 s.cpu.pc).units :=
    (e1 _).push16 (s := s.idle) _ (fst _ _) (snd _ _)
  cases f with
  | jpCond cc | jrCond cc =>
    cases h : s.cpu.holds cc <;>
      simp only [tailCycles, Form.taken, Form.cost, Form.length, Form.run, opJpCond, opJrCond, h,
        Bool.false_eq_true, if_true, if_false]
    · exact e0 _
    · exact e1 _
  | callCond cc =>
    cases h : s.cpu.holds cc <;>
      simp only [tailCycles, Form.taken, Form.cost, Form.length, Form.run, Form.stores, opCallCond, h,
        Bool.false_eq_true, if_true, if_false]
    · exact e0 _
    · exact call
  | retCond cc =>
    cases h : s.cpu.holds cc <;>
      simp only [tailCycles, Form.taken, Form.cost, Form.length, Form.run, opRetCond, h,
        Bool.false_eq_true, if_true, if_false]
    · exact e1 _
    · exact (e2 _).idle.idle
  | ei =>
    have : (opEi s).units = s.units := by unfold opEi; split <;> rfl
    simp only [tailCycles, Form.cost, Form.length, Form.run, this]
    exact e0 _
  | ldRegReg | ldRegImm | ldPairImm | aluReg | aluImm | incReg | decReg | daa | cpl | scf | ccf | rlca | rla | rrca
  | rra | shiftReg | bitReg | resReg | setReg | jpHL | nop | halt | stop | di | undefined =>
    simp only [tailCycles, Form.cost, Form.length]
    exact e0 _
  | ldRegHL | ldABC | ldADE | ldAAbs | ldhAImm | ldhAC | ldAInc | ldADec | ldSPHL | ldHLSPe | aluHL | addHL
  | incPair | decPair | bitHL | jp | jr =>
    simp only [tailCycles, Form.cost, Form.length]
    exact e1 _
  | ldHLReg | ldHLImm | ldBCA | ldDEA | ldAbsA | ldhImmA | ldhCA | ldIncA | ldDecA =>
    simp only [tailCycles, Form.cost, Form.length]
    exact (e0 _).write _ (fst _ _)
  | pop | addSPe =>
    simp only [tailCycles, Form.cost, Form.length]
    exact e2 _
  | incHL | decHL | shiftHL | resHL | setHL =>
    simp only [tailCycles, Form.cost, Form.length]
    exact (e1 _).write _ (fst _ _)
  | ldAbsSP =>
    simp only [tailCycles, Form.cost, Form.length]
    exact ((e0 _).write _ (fst _ _)).write _ (snd _ _)
  | push =>
    simp only [tailCycles, Form.cost, Form.length]
    exact (e1 _).push16 (s := s.idle) _ (fst _ _) (snd _ _)
  | call | rst =>
    simp only [tailCycles, Form.cost, Form.length]
    exact call
  | ret | reti =>
    simp only [tailCycles, Form.cost, Form.length]
    exact (e2 _).idle

/-- Settles O32: an instruction changes the units by its ticks and its stores alone. -/
theorem memoryFrame : Obligations.MemoryFrame := by
  unfold Obligations.MemoryFrame
  intro f s t ht
  rw [exec_eq, form_instr] at ht
  cases ht
  have h := run_storesAt f s
  refine ⟨fun addr hk => ?_, h.held, h.cart⟩
  unfold State.ramByte
  cases hr : ramKey addr.toNat with
  | none => rfl
  | some k => exact congrArg some (h.read_other (hr ▸ hk))

end Sys2Proof.Machine
end

section
/-! PROOFS. The fetch and the cost of every instruction (O29), and the step that runs the decoded one (O27). -/

namespace Sys2Proof.Machine

/-- The state after a fetch of `n` bytes: PC advanced by `n`, the units by their ticks, nothing else (R18, R24). -/
theorem fetchBytes_state (n : Nat) (s : State) :
    (State.fetchBytes n s).2 =
      { s with cpu := { s.cpu with pc := s.cpu.pc + BitVec.ofNat 16 n }, units := ticks (4 * n) s.units } := by
  induction n generalizing s with
  | zero => simp [State.fetchBytes, ticks]
  | succ n ih =>
    have hpc : s.cpu.pc + 1#16 + BitVec.ofNat 16 n = s.cpu.pc + BitVec.ofNat 16 (n + 1) := by
      rw [BitVec.add_assoc, Nat.add_comm n 1, BitVec.ofNat_add]
    have hticks : ticks (4 * n) (ticks 4 s.units) = ticks (4 * (n + 1)) s.units := by
      rw [← ticks_add, Nat.mul_succ, Nat.add_comm]
    show (State.fetchBytes n s.fetched).2 = _
    rw [ih, State.fetched_cpu, State.fetched_units, hpc, hticks]
    rfl

/-- Byte `k` of a fetch is the bus's at PC + k, `k + 1` machine cycles later (R74). -/
theorem fetchBytes_getElem? {n k : Nat} (s : State) (hk : k < n) :
    (State.fetchBytes n s).1[k]? =
      some (busRead s.cfg s.outside.latch (ticks (4 * (k + 1)) s.units) (s.cpu.pc + BitVec.ofNat 16 k)) := by
  induction n generalizing s k with
  | zero => omega
  | succ n ih =>
    cases k with
    | zero =>
      show some (busRead s.cfg s.outside.latch (ticks 4 s.units) s.cpu.pc) = _
      simp
    | succ k =>
      have hpc : s.cpu.pc + 1#16 + BitVec.ofNat 16 k = s.cpu.pc + BitVec.ofNat 16 (k + 1) := by
        rw [BitVec.add_assoc, Nat.add_comm k 1, BitVec.ofNat_add]
      have hticks : ticks (4 * (k + 1)) (ticks 4 s.units) = ticks (4 * (k + 1 + 1)) s.units := by
        rw [← ticks_add, Nat.mul_succ 4 (k + 1), Nat.add_comm 4]
      have h := ih s.fetched (Nat.lt_of_succ_lt_succ hk)
      rw [State.fetched_units, State.fetched_cpu, hpc, hticks] at h
      exact h

/-- The cost table counts 4 cycles for each byte and 4 for each machine cycle after the fetch (R510). -/
theorem cost_eq (f : Form) (c : Cpu) : f.cost (f.taken c) = 4 * (f.length + tailCycles f c) := by
  unfold tailCycles
  generalize f.taken c = taken
  cases f <;> cases taken <;> simp [Form.cost, Form.length]

/-- Settles O29, by the fetch of `n` bytes and the machine cycles of every operation. -/
theorem cycleCost : Obligations.CycleCost := by
  unfold Obligations.CycleCost
  refine ⟨fun n s u bs h => ?_, fun f s t hs ht => ?_⟩
  · have hu := fetchBytes_state n s
    have hbytes := fun k (hk : k < n) => fetchBytes_getElem? s hk
    obtain ⟨-, -, -, -, hlen⟩ := fetchBytes_spec n s
    rw [h] at hu hbytes hlen
    have hunits : u.units = ticks (4 * n) s.units := congrArg State.units hu
    exact ⟨hlen, hbytes, hu, fun hs => hunits ▸ ticks_cycles (4 * n) s.units hs⟩
  · rw [exec_eq, form_instr] at ht
    cases ht
    rw [instr_length, cost_eq, Nat.mul_add, Nat.add_sub_cancel_left]
    exact ⟨Nat.le_add_right _ _, (run_evolves f s).cycles hs⟩

/-- Settles O27, by the step as one state and the bytes fetched. -/
theorem stepRunsDecoded : Obligations.StepRunsDecoded := by
  unfold Obligations.StepRunsDecoded
  refine ⟨fun s u n bs i hint hawake hfetch hdec => ?_, decodeWith_default⟩
  obtain ⟨-, hcfg, -⟩ := beginFrame_spec s
  obtain ⟨hform, hother⟩ := fetch_decoded hfetch (show decodeWith s.beginFrame.cfg.dispatch bs = _ from hcfg ▸ hdec)
  have hexec : s.beginFrame.executed = (i.form.run u).finishStep s.beginFrame.eiMatures := by
    unfold State.executed
    rw [hother, hform]
    rfl
  rw [step_eq, exec_eq, State.advance, hint, hawake, hexec]
  rfl

end Sys2Proof.Machine
end

section
/-! PROOFS. The state after reset as a power-on (O38) and the register file's views (O39). -/

namespace Sys2Proof.Machine

/-- Settles O38: without images the launch gives the fallback registers, BANK = 1 and the default configuration. -/
theorem resetIsPowerOn : Obligations.ResetIsPowerOn := by
  unfold Obligations.ResetIsPowerOn
  intro x hboot hrom hcart hdispatch hei hio hmem
  have hb : x.boot = none := by rw [Launch.boot, hboot]
  have hr : x.rom = none := by rw [Launch.rom, hrom]
  rw [State.powerOn, hb, hr, hcart, hdispatch, hei, hio, hmem]
  rfl

/-- A pair reads back what was written to it (R22). -/
@[simp] theorem Cpu.setPair_pair (c : Cpu) (p : Pair) (v : Word) : (c.setPair p v).pair p = v := by
  cases p with
  | bc | de | hl => exact hiLo_bytes v
  | sp => rfl

/-- A stack pair other than AF reads back what was written to it (R22). -/
theorem Cpu.setStkPair_stkPair (c : Cpu) {q : StkPair} (v : Word) (hq : q ≠ .af) :
    (c.setStkPair q v).stkPair q = v := by
  cases q with
  | bc | de | hl => exact hiLo_bytes v
  | af => exact absurd rfl hq

/-- Settles O39, by the byte order of a word, the bits of packed flags and the conditions by their flag. -/
theorem registerViews : Obligations.RegisterViews := by
  unfold Obligations.RegisterViews
  intro c v
  refine ⟨hiLo_toNat _ _, hiLo_toNat _ _, hiLo_toNat _ _, hiLo_toNat _ _, fun p => c.setPair_pair p v,
    fun q => c.setStkPair_stkPair v, rfl, rfl, rfl, rfl, rfl, rfl, fun z n h k => ?_, ?_, Iff.rfl, ?_, Iff.rfl⟩
  · obtain ⟨hz, hn, hh, hc⟩ := packFlags_bits z n h k
    exact ⟨rfl, hz, hn, hh, hc, packFlags_low z n h k⟩
  · exact iff_of_eq (Bool.not_eq_true' _)
  · exact iff_of_eq (Bool.not_eq_true' _)

end Sys2Proof.Machine
end

section
/-! PROOFS. The transfers of every region but the I/O file, by the range of its addresses (O41). WRAM, its echo and HRAM
stand in Laws/Bus.lean. -/

namespace Sys2Proof.Machine

/-- The addresses of a region, under a value of BANK (R72). -/
def Region.Range (a : Nat) (bank : Byte) : Region → Prop
  | .bootOverlay => a ≤ 0x00FF ∧ bank = 0x00#8
  | .rom0 => a ≤ 0x3FFF ∧ ¬(a ≤ 0x00FF ∧ bank = 0x00#8)
  | .rom1 => 0x4000 ≤ a ∧ a ≤ 0x7FFF
  | .vram => 0x8000 ≤ a ∧ a ≤ 0x9FFF
  | .extRam => 0xA000 ≤ a ∧ a ≤ 0xBFFF
  | .wram => 0xC000 ≤ a ∧ a ≤ 0xDFFF
  | .echo => 0xE000 ≤ a ∧ a ≤ 0xFDFF
  | .oam => 0xFE00 ≤ a ∧ a ≤ 0xFE9F
  | .unusable => 0xFEA0 ≤ a ∧ a ≤ 0xFEFF
  | .io => 0xFF00 ≤ a ∧ a ≤ 0xFF7F
  | .hram => 0xFF80 ≤ a ∧ a ≤ 0xFFFE
  | .ie => 0xFFFF ≤ a

/-- The decoder gives an address the region in whose range it lies (R72). -/
theorem region_of_range {a : Nat} {bank : Byte} {r : Region} (h : r.Range a bank) : region a bank = r := by
  cases r with
  | bootOverlay => exact if_pos h
  | rom0 => exact (if_neg h.2).trans (if_pos h.1)
  | _ =>
    simp only [Region.Range] at h
    simp (disch := omega) only [region, if_neg, if_pos]

section
variable (cfg : Config) (latch : InputLatch) (u : Units) (v : Byte) {addr : Word}

/-! ## The cartridge's regions (R78, R79, R80, R82) -/

theorem busRead_overlay (h : addr.toNat ≤ 0x00FF ∧ u.bus.bank = 0x00#8) :
    busRead cfg latch u addr = bootRead cfg addr.toNat := by
  simp only [busRead, region_of_range (r := .bootOverlay) h]

theorem busRead_rom0 (h : addr.toNat ≤ 0x3FFF) (ho : ¬(addr.toNat ≤ 0x00FF ∧ u.bus.bank = 0x00#8)) :
    busRead cfg latch u addr = cartRead cfg u.bus.cart .rom0 addr.toNat := by
  simp only [busRead, region_of_range (r := .rom0) ⟨h, ho⟩]

theorem busRead_rom1 (h : 0x4000 ≤ addr.toNat ∧ addr.toNat ≤ 0x7FFF) :
    busRead cfg latch u addr = cartRead cfg u.bus.cart .rom1 (addr.toNat - 0x4000) := by
  simp only [busRead, region_of_range (r := .rom1) h]

theorem busRead_extRam (h : 0xA000 ≤ addr.toNat ∧ addr.toNat ≤ 0xBFFF) :
    busRead cfg latch u addr =
      if extRamEnabled cfg u.bus.cart then cartRead cfg u.bus.cart .extRam (addr.toNat - 0xA000) else 0xFF#8 := by
  simp only [busRead, region_of_range (r := .extRam) h]

theorem busWrite_extRam (h : 0xA000 ≤ addr.toNat ∧ addr.toNat ≤ 0xBFFF) :
    busWrite cfg addr v u = if extRamEnabled cfg u.bus.cart then storeCart cfg addr v u else u := by
  simp only [busWrite, region_of_range (r := .extRam) h]

/-- A write to the overlay range or to ROM goes to the cartridge, whatever BANK holds. -/
theorem busWrite_rom (h : addr.toNat ≤ 0x7FFF) : busWrite cfg addr v u = storeCart cfg addr v u := by
  by_cases ho : addr.toNat ≤ 0x00FF ∧ u.bus.bank = 0x00#8
  · simp only [busWrite, region_of_range (r := .bootOverlay) ho]
  · by_cases h0 : addr.toNat ≤ 0x3FFF
    · simp only [busWrite, region_of_range (r := .rom0) ⟨h0, ho⟩]
    · simp only [busWrite, region_of_range (r := .rom1) ⟨by omega, h⟩]

/-- No cartridge and the minimal one take no write in any of their regions, and their external RAM reads 0xFF (R11, R79,
R82). -/
theorem busWrite_cart_fixed {cfg : Config} (hc : cfg.rom = none ∨ cfg.cartridge = .minimal)
    (h : addr.toNat ≤ 0x7FFF ∨ 0xA000 ≤ addr.toNat ∧ addr.toNat ≤ 0xBFFF) : busWrite cfg addr v u = u := by
  obtain h | h := h
  · rw [busWrite_rom _ _ _ h, storeCart_fixed _ _ _ hc]
  · rw [busWrite_extRam _ _ _ h, extRamEnabled_fixed _ hc, if_neg Bool.false_ne_true]

theorem busRead_extRam_fixed {cfg : Config} (hc : cfg.rom = none ∨ cfg.cartridge = .minimal)
    (h : 0xA000 ≤ addr.toNat ∧ addr.toNat ≤ 0xBFFF) : busRead cfg latch u addr = 0xFF#8 := by
  rw [busRead_extRam _ _ _ h, extRamEnabled_fixed _ hc, if_neg Bool.false_ne_true]

/-- What another cartridge reads as (log entry 16). -/
theorem cartRead_other {cfg : Config} {m : Memory} (cart : List CartWrite) (r : CartRegion) (o : Nat)
    (h : cfg.rom = some m) (k : cfg.cartridge = .other) : cartRead cfg cart r o = Config.cartRead m cart r o := by
  simp only [cartRead, h, k]

theorem extRamEnabled_other {cfg : Config} {m : Memory} (cart : List CartWrite) (h : cfg.rom = some m)
    (k : cfg.cartridge = .other) : extRamEnabled cfg cart = Config.extRamEnabled m cart := by
  simp only [extRamEnabled, h, k]

/-! ## The regions the bus may block, and IE (R81, R85, R86, R89) -/

theorem vram_transfer (h : 0x8000 ≤ addr.toNat ∧ addr.toNat ≤ 0x9FFF) :
    busRead cfg latch u addr = (if u.bus.vramBlocked then 0xFF#8 else Memory.read u.bus.mem addr.toNat) ∧
      busWrite cfg addr v u = (if u.bus.vramBlocked then u else storeRam addr.toNat v u) := by
  simp only [busRead, busWrite, region_of_range (r := .vram) h, and_self]

theorem oam_transfer (h : 0xFE00 ≤ addr.toNat ∧ addr.toNat ≤ 0xFE9F) :
    busRead cfg latch u addr = (if u.bus.oamBlocked then 0xFF#8 else Memory.read u.bus.mem addr.toNat) ∧
      busWrite cfg addr v u = (if u.bus.oamBlocked then u else storeRam addr.toNat v u) := by
  simp only [busRead, busWrite, region_of_range (r := .oam) h, and_self]

theorem unusable_transfer (h : 0xFEA0 ≤ addr.toNat ∧ addr.toNat ≤ 0xFEFF) :
    busRead cfg latch u addr = (if u.bus.oamBlocked then 0xFF#8 else 0x00#8) ∧ busWrite cfg addr v u = u := by
  simp only [busRead, busWrite, region_of_range (r := .unusable) h, and_self]

theorem ie_transfer (h : addr.toNat = 0xFFFF) :
    busRead cfg latch u addr = u.timer.intEnable ∧
      busWrite cfg addr v u = { u with timer := { u.timer with intEnable := v } } := by
  simp only [busRead, busWrite, region_of_range (r := .ie) (Nat.le_of_eq h.symm), and_self]

/-- The transfers of WRAM, its echo and HRAM, which nothing blocks (R83, R84, R88). -/
theorem ram_transfer {k : Nat} (h : ReachesRam addr.toNat k) :
    busRead cfg latch u addr = Memory.read u.bus.mem k ∧ busWrite cfg addr v u = storeRam k v u :=
  ⟨busRead_ram cfg latch u h, busWrite_ram cfg v u h⟩

end

/-- Settles O41, a clause at a time: the overlay, the three kinds of cartridge, then the regions in the order of their
addresses. -/
theorem regionRules : Obligations.RegionRules := by
  unfold Obligations.RegionRules
  intro cfg latch u addr v a overlay external stored taken
  refine ⟨fun ho m hm => ?_, fun hm => ⟨fun h ho => ?_, fun h => ?_, fun h => ?_⟩,
    fun m hm hk => ⟨fun h ho => ?_, fun h h' => ?_, fun h => ?_, fun h => ?_⟩,
    fun m hm hk => ⟨fun h ho => ?_, fun h h' => ?_, fun h => ?_, fun h => ⟨?_, ?_⟩⟩,
    fun h h' => vram_transfer cfg latch u v ⟨h, h'⟩, fun h h' => ram_transfer cfg latch u v (.inl ⟨h, h', rfl⟩),
    fun h h' => ram_transfer cfg latch u v (.inr (.inl ⟨h, h', rfl⟩)), fun h h' => oam_transfer cfg latch u v ⟨h, h'⟩,
    fun h h' => unusable_transfer cfg latch u v ⟨h, h'⟩,
    fun h h' => ram_transfer cfg latch u v (.inr (.inr ⟨h, h', rfl⟩)), fun h => ie_transfer cfg latch u v h⟩
  · rw [busRead_overlay cfg latch u ho, bootRead, hm]
  -- no cartridge
  · by_cases h0 : a ≤ 0x3FFF
    · rw [busRead_rom0 cfg latch u h0 ho, cartRead_absent _ _ _ hm]
    · rw [busRead_rom1 cfg latch u ⟨Nat.lt_of_not_le h0, h⟩, cartRead_absent _ _ _ hm]
  · exact busRead_extRam_fixed latch u (.inl hm) h
  · exact busWrite_cart_fixed u v (.inl hm) h
  -- the minimal cartridge
  · rw [busRead_rom0 cfg latch u h ho, cartRead, hm, hk]
  · rw [busRead_rom1 cfg latch u ⟨h, h'⟩, cartRead, hm, hk]
  · exact busRead_extRam_fixed latch u (.inr hk) h
  · exact busWrite_cart_fixed u v (.inr hk) h
  -- any other cartridge
  · rw [busRead_rom0 cfg latch u h ho, cartRead_other _ _ _ hm hk]
  · rw [busRead_rom1 cfg latch u ⟨h, h'⟩, cartRead_other _ _ _ hm hk]
  · rw [busWrite_rom cfg u v h, storeCart_other _ _ _ hm hk]
  · rw [busRead_extRam cfg latch u h, extRamEnabled_other _ hm hk, cartRead_other _ _ _ hm hk]
  · rw [busWrite_extRam cfg u v h, extRamEnabled_other _ hm hk, storeCart_other _ _ _ hm hk]

end Sys2Proof.Machine
end

section
/-! PROOFS. What one iteration of the scheduler does, in one shape (`advance_eq_afterStep`), and what every step therefore
keeps of the units (`UnitsKept`): the invariant from power-on on (O34, O35, O36), and the boot overlay gone for good once
BANK is nonzero (O44). -/

namespace Sys2Proof.Machine

/-! ## One iteration in one shape -/

/-- An iteration is the end of an iteration after the service of an interrupt, or after 1 to 6 machine cycles of `Step()`
(R471, R476). -/
theorem advance_eq_afterStep (s : State) :
    ∃ t, s.advance = t.afterStep ∧
      ((∃ k, t = (s.serviceInterrupt k).report none) ∨ ∃ n, 1 ≤ n ∧ n ≤ 6 ∧ Ran s n t) := by
  unfold State.advance
  cases s.interruptTaken with
  | some k => exact ⟨_, rfl, .inl ⟨k, rfl⟩⟩
  | none =>
    refine ⟨_, rfl, .inr ?_⟩
    split
    · exact ⟨1, by decide, by decide, Evolves.refl.idle, rfl, id, fun _ hp => hp⟩
    · exact executed_ran s

/-- No part of an iteration changes the configuration (R54). -/
@[simp] theorem advance_cfg (s : State) : s.advance.cfg = s.cfg := by
  obtain ⟨t, e, ht⟩ := advance_eq_afterStep s
  obtain ⟨-, hcfg, -⟩ := afterStep_spec t
  rw [e, hcfg]
  obtain ⟨k, rfl⟩ | ⟨n, -, -, hran⟩ := ht
  · rfl
  · exact hran.cfg

/-! ## What a step keeps of the units -/

/-- `P` is kept by whatever happens to the units in a step: a machine cycle's ticks, a bus write, and a change of the
request flags and of `frameDone`, which stands for the requests, their clearing and the frame-end check. -/
structure UnitsKept (cfg : Config) (P : Units → Prop) : Prop where
  ticks : ∀ u, P u → P (ticks 4 u)
  write : ∀ (addr : Word) (v : Byte) (u : Units), P u → P (busWrite cfg addr v u)
  flags : ∀ (done : Bool) (f : BitVec 5) (u : Units), P u →
    P { u with frameDone := done, timer := { u.timer with intFlag := f } }

namespace UnitsKept
variable {cfg : Config} {P : Units → Prop} {s : State}

theorem evolves {n : Nat} {u v : Units} (k : UnitsKept cfg P) (h : Evolves cfg u n v) (hu : P u) : P v := by
  induction h with
  | refl => exact hu
  | idle _ ih => exact k.ticks _ ih
  | write addr v _ ih => exact k.write addr v _ (k.ticks _ ih)

theorem beginFrame (k : UnitsKept cfg P) (h : P s.units) : P s.beginFrame.units := by
  obtain ⟨-, -, -, -, -, e | e⟩ := beginFrame_spec s <;> rw [e]
  · exact h
  · exact k.flags _ _ _ h

theorem serviceInterrupt (k : UnitsKept s.cfg P) (i : Nat) (h : P s.units) : P (s.serviceInterrupt i).units := by
  obtain ⟨u, hu, e⟩ := serviceInterrupt_units i s
  rw [e]
  exact k.ticks _ (k.flags _ _ _ (k.evolves hu h))

theorem afterStep (k : UnitsKept cfg P) (h : P s.units) : P s.afterStep.units := by
  obtain ⟨-, -, e | ⟨e, -⟩⟩ := afterStep_spec s <;> rw [e]
  · exact k.flags _ _ _ h
  · exact h

theorem advance (k : UnitsKept s.cfg P) (h : P s.units) : P s.advance.units := by
  obtain ⟨t, e, ht⟩ := advance_eq_afterStep s
  rw [e]
  refine k.afterStep ?_
  obtain ⟨i, rfl⟩ | ⟨n, -, -, hran⟩ := ht
  · exact k.serviceInterrupt i h
  · exact k.evolves hran.evolves h

/-- What every part of a step keeps, the step keeps. -/
theorem step {t : State} (k : UnitsKept s.cfg P) (h : P s.units) (ht : step s = .next t) : P t.units := by
  rw [step_eq] at ht
  cases ht
  obtain ⟨-, hcfg, -⟩ := beginFrame_spec s
  exact UnitsKept.advance (hcfg.symm ▸ k) (k.beginFrame h)

end UnitsKept

/-! ## The invariant -/

/-- The clauses of `State.Inv` that speak of the units and the configuration alone. -/
structure UnitsOk (cfg : Config) (u : Units) : Prop where
  inv : u.Inv
  /-- R473. -/
  aligned : u.cycles % 4 = 0
  /-- R42, R78. -/
  overlay : u.bus.bank = 0#8 → cfg.boot.isSome = true

theorem State.Inv.unitsOk {s : State} (h : s.Inv) : UnitsOk s.cfg s.units := ⟨h.units, h.cycles_aligned, h.overlay⟩

/-- A machine cycle is four ticks of a frame that is a multiple of four (R473); BANK never becomes 0 again (R42). -/
theorem unitsOk_kept (cfg : Config) : UnitsKept cfg (UnitsOk cfg) where
  ticks u h := by
    refine ⟨ticks_inv 4 h.inv, ?_, by rw [ticks_bank]; exact h.overlay⟩
    have hal := h.aligned
    rw [ticks_cycles 4 u h.inv.cycles_lt]
    simp only [frameCycles]
    omega
  write addr v u h := by
    refine ⟨busWrite_inv cfg addr v h.inv, by rw [busWrite_cycles]; exact h.aligned, fun hz => h.overlay ?_⟩
    by_contra hne
    exact hne (busWrite_bank cfg addr v u hne ▸ hz)
  flags _ _ _ h :=
    ⟨h.inv.ofSame rfl rfl rfl rfl rfl rfl rfl rfl rfl h.inv.bounds h.inv.mem_wf h.inv.mem_ram, h.aligned, h.overlay⟩

/-- An iteration keeps F's low nibble zero (R25): a service leaves F alone. -/
theorem advance_flags_low {s : State} (h : s.cpu.f &&& 0x0F#8 = 0#8) : s.advance.cpu.f &&& 0x0F#8 = 0#8 := by
  obtain ⟨t, e, ht⟩ := advance_eq_afterStep s
  obtain ⟨hcpu, -⟩ := afterStep_spec t
  rw [e, hcpu]
  obtain ⟨k, rfl⟩ | ⟨n, -, -, hran⟩ := ht
  · rw [State.report_cpu, serviceInterrupt_cpu]
    exact h
  · exact hran.flags_low h

/-- With `EI_DELAY` = 0 an iteration leaves `imePending` unset (R27): a service clears it. -/
theorem advance_pending {s : State} (hd : s.cfg.eiDelay = false) (hp : s.cpu.imePending = false) :
    s.advance.cpu.imePending = false := by
  obtain ⟨t, e, ht⟩ := advance_eq_afterStep s
  obtain ⟨hcpu, -⟩ := afterStep_spec t
  rw [e, hcpu]
  obtain ⟨k, rfl⟩ | ⟨n, -, -, hran⟩ := ht
  · rw [State.report_cpu, serviceInterrupt_cpu]
  · exact hran.pending hd hp

/-- `frameDone` outlives an iteration only when that iteration ended in an abort (R472, R474). -/
theorem advance_done_aborted {s : State} (h : s.advance.units.frameDone = true) :
    s.advance.outside.frameOutcome = some .abortedByHost := by
  obtain ⟨t, e, -⟩ := advance_eq_afterStep s
  rw [e] at h ⊢
  obtain ⟨-, -, hu | ⟨-, ho⟩⟩ := afterStep_spec t
  · rw [hu] at h
    cases h
  · exact ho

/-- Settles O35, clause by clause: those of the units by `UnitsKept`, those of F, `imePending` and `frameDone` by the shape
of an iteration. -/
theorem invariantPreserved : Obligations.InvariantPreserved := by
  unfold Obligations.InvariantPreserved
  intro s t h ht
  have hu := (unitsOk_kept s.cfg).step h.unitsOk ht
  rw [step_eq] at ht
  cases ht
  obtain ⟨hcpu, hcfg, -⟩ := beginFrame_spec s
  have hcfg' : s.beginFrame.advance.cfg = s.cfg := (advance_cfg _).trans hcfg
  exact {
    units := hu.inv
    cfg := hcfg' ▸ h.cfg
    flags_low := advance_flags_low (hcpu ▸ h.flags_low)
    cycles_aligned := hu.aligned
    done_aborted := advance_done_aborted
    overlay := hcfg' ▸ hu.overlay
    pending := fun hd => advance_pending (hcfg ▸ hcfg' ▸ hd) (hcpu ▸ h.pending (hcfg' ▸ hd)) }

/-! ## Power-on -/

/-- The units' reset values meet their invariant (R492): LY 0 and Mode 2 at cycle 0, the first targets one period ahead. -/
theorem unitsReset_inv : Units.reset.Inv :=
  Units.Inv.ofParts (by decide) rfl
    { nextDIV_lt := by decide
      nextTIMA_lt := by decide
      div_ahead := by decide
      tima_ahead := fun h => nomatch h }
    { vram_blocked := rfl
      oam_blocked := rfl
      ready_iff := rfl }
    (by decide) (by decide)
    { bg_le := by decide
      sprite_le := by decide
      scan_le := by decide
      scan_index := fun _ h => nomatch h
      lcdX_le := by decide
      discard_le := by decide
      stall_le := by decide
      pending_iff := rfl
      pending_index := fun _ h => nomatch h
      lcd_wf := rfl
      lcd_cell := fun _ h => nomatch h }
    rfl rfl

/-- A boot image is the memory of a file of 256 bytes (R9). -/
theorem Launch.boot_eq_some {x : Launch} {m : Memory} (h : x.boot = some m) :
    ∃ bs : List Byte, bs.length = 256 ∧ m = Memory.ofBytes bs := by
  unfold Launch.boot at h
  split at h
  · obtain ⟨hlen, e⟩ := Option.ite_none_right_eq_some.1 h
    exact ⟨_, hlen, (Option.some.inj e).symm⟩
  · cases h

/-- A cartridge image is the memory of a file (R9). -/
theorem Launch.rom_eq_some {x : Launch} {m : Memory} (h : x.rom = some m) : ∃ bs : List Byte, m = Memory.ofBytes bs := by
  unfold Launch.rom at h
  split at h
  · obtain ⟨-, e⟩ := Option.ite_none_right_eq_some.1 h
    exact ⟨_, (Option.some.inj e).symm⟩
  · cases h

/-- The configuration of every launch meets its invariant (R9). -/
theorem powerOn_cfg_inv (x : Launch) : (State.powerOn x).cfg.Inv where
  boot_wf m h := by
    obtain ⟨bs, -, rfl⟩ := Launch.boot_eq_some h
    exact Memory.wf_ofBytes bs
  boot_size m h := by
    obtain ⟨bs, hlen, rfl⟩ := Launch.boot_eq_some h
    exact hlen ▸ Memory.lt_ofBytes bs
  rom_wf m h := by
    obtain ⟨bs, rfl⟩ := Launch.rom_eq_some h
    exact Memory.wf_ofBytes bs

/-- F's low nibble is zero after power-on: in the fallback registers, and masked in a launch's own (R491, R492). -/
theorem powerOn_flags_low (x : Launch) : (State.powerOn x).cpu.f &&& 0x0F#8 = 0#8 := by
  unfold State.powerOn
  cases x.boot with
  | none => exact (by decide : Cpu.reset.f &&& 0x0F#8 = 0#8)
  | some m => exact maskFlags_low x.f

/-- BANK is 0 after power-on only with a boot image (R491). -/
theorem powerOn_overlay (x : Launch) (h : (State.powerOn x).units.bus.bank = 0#8) :
    (State.powerOn x).cfg.boot.isSome = true := by
  unfold State.powerOn at h ⊢
  cases hb : x.boot with
  | none =>
    rw [hb] at h
    cases h
  | some m => rfl

/-- `imePending` is unset after power-on (R492). -/
theorem powerOn_pending (x : Launch) : (State.powerOn x).cpu.imePending = false := by
  unfold State.powerOn
  cases x.boot <;> rfl

/-- Settles O36: the launch chooses only what the clauses of `State.Inv` leave open. -/
theorem invariantAtPowerOn : Obligations.InvariantAtPowerOn := by
  unfold Obligations.InvariantAtPowerOn
  intro x hwf hram
  exact {
    units := unitsReset_inv.ofSame rfl rfl rfl rfl rfl rfl rfl rfl rfl unitsReset_inv.bounds hwf hram
    cfg := powerOn_cfg_inv x
    flags_low := powerOn_flags_low x
    cycles_aligned := rfl
    done_aborted := fun h => nomatch h
    overlay := powerOn_overlay x
    pending := fun _ => powerOn_pending x }

/-- The launch whose power-on is `State.reset`: no image, the default parameters, no byte of memory listed. Its registers
are unused, since no boot image is present. -/
def Launch.bare : Launch where
  bootFile := none
  cartFile := none
  cartridge := .minimal
  dispatch := DispatchTable.default
  eiDelay := true
  ioImplemented := IoReg.default
  mem := []
  a := 0x00#8
  f := 0x00#8
  b := 0x00#8
  c := 0x00#8
  d := 0x00#8
  e := 0x00#8
  h := 0x00#8
  l := 0x00#8
  sp := 0x0000#16

/-- Settles O34: reset is the power-on of the bare launch (O38), so O36 gives its invariant. -/
theorem invariantAtReset : Obligations.InvariantAtReset := by
  unfold Obligations.InvariantAtReset
  rw [← resetIsPowerOn Launch.bare rfl rfl rfl rfl rfl rfl rfl]
  exact invariantAtPowerOn Launch.bare rfl rfl

/-! ## The boot overlay -/

/-- Every part of a step keeps a nonzero BANK (R42). -/
theorem bank_kept (cfg : Config) {b : Byte} (hb : b ≠ 0#8) : UnitsKept cfg (fun u => u.bus.bank = b) where
  ticks u h := (ticks_bank 4 u).trans h
  write addr v u h := (busWrite_bank cfg addr v u (h.trans_ne hb)).trans h
  flags _ _ _ h := h

@[simp] theorem ticks_cart (n : Nat) (u : Units) : (ticks n u).bus.cart = u.bus.cart :=
  congrArg Held.cart (ticks_held n u)

/-- While BANK is 0 a read of the overlay's range is one of the boot image (R78). -/
theorem readByte_overlay {s : State} {boot : Memory} {addr : Word} (hboot : s.cfg.boot = some boot)
    (hbank : s.units.bus.bank = 0x00#8) (ha : addr.toNat ≤ 0x00FF) : s.readByte addr = Memory.read boot addr.toNat := by
  have e : s.readByte addr = busRead s.cfg s.outside.latch (ticks 4 s.units) addr := rfl
  rw [e, busRead_overlay _ _ _ ⟨ha, (ticks_bank 4 _).trans hbank⟩, bootRead, hboot]

/-- Once BANK is nonzero, a read below 0x4000 is one of the cartridge's first bank (R79). -/
theorem readByte_rom0 {s : State} {addr : Word} (hbank : s.units.bus.bank ≠ 0x00#8) (ha : addr.toNat ≤ 0x3FFF) :
    s.readByte addr = cartRead s.cfg s.units.bus.cart .rom0 addr.toNat := by
  have e : s.readByte addr = busRead s.cfg s.outside.latch (ticks 4 s.units) addr := rfl
  rw [e, busRead_rom0 _ _ _ ha (fun ho => hbank ((ticks_bank 4 _).symm.trans ho.2)), ticks_cart]

/-- A write to 0xFF50 while BANK is 0 sets BANK (R42, R91). -/
theorem writeByte_bank {s : State} (v : Byte) (himpl : s.cfg.ioImplemented.contains .bank = true)
    (hbank : s.units.bus.bank = 0x00#8) : (s.writeByte 0xFF50#16 v).units.bus.bank = v := by
  have hslot : implementedAt s.cfg 0xFF50 = some .bank := if_pos himpl
  have hregion : region 0xFF50 (ticks 4 s.units).bus.bank = .io := region_io _ (by decide) (by decide)
  have hwrite : busWrite s.cfg 0xFF50#16 v (ticks 4 s.units) = ioWrite v (ticks 4 s.units) .bank := by
    simp only [busWrite, show (0xFF50#16).toNat = 0xFF50 from rfl, hregion, hslot]
  rw [State.writeByte_units, hwrite, ioWrite, if_pos ((ticks_bank 4 _).trans hbank)]

/-- Settles O44: the overlay's read, the write of BANK and what is read after it; then BANK through any step. -/
theorem bootOverlayRemoved : Obligations.BootOverlayRemoved := by
  unfold Obligations.BootOverlayRemoved
  refine ⟨fun s boot rom v hboot hrom himpl hbank => ?_, fun s t hbank ht => (bank_kept s.cfg hbank).step rfl ht⟩
  have hset := writeByte_bank v himpl hbank
  refine ⟨readByte_overlay hboot hbank (by decide), hset, fun hv => ?_⟩
  have hcart : (s.writeByte 0xFF50#16 v).units.bus.cart = s.units.bus.cart := by
    rw [State.writeByte_units, busWrite_cart _ _ _ _ (by decide), ticks_cart]
  have hread := readByte_rom0 (addr := 0x0010#16) (hset.trans_ne hv) (by decide)
  rw [State.writeByte_cfg, hcart] at hread
  refine ⟨fun hk => ?_, fun hk => ?_⟩
  · rw [hread, cartRead, hrom, hk]
    rfl
  · rw [hread, cartRead_other _ _ _ hrom hk]
    rfl

end Sys2Proof.Machine
end

section
/-! PROOFS. The processor after every instruction (O31): the registers its rule does not name are kept, and SP, PC, IME,
`imePending` and the mode are what `Form.controlAfter` says. -/

namespace Sys2Proof.Machine

/-! ## The frame of the register file -/

/-- The processor's state apart from the eight 8-bit registers. -/
structure Control where
  sp : Word
  pc : Word
  ime : Bool
  imePending : Bool
  mode : RunMode

/-- This part of the processor. -/
def Cpu.control (c : Cpu) : Control := ⟨c.sp, c.pc, c.ime, c.imePending, c.mode⟩

/-- `c'` has the registers of `c` outside `w`, F left aside, and `k` beside them. -/
structure Cpu.Frame (w : List Reg8) (k : Control) (c c' : Cpu) : Prop where
  regs : ∀ r, r ∉ w → c'.reg r = c.reg r
  control : c'.control = k

namespace Cpu.Frame
variable {w : List Reg8} {k : Control} {c c' : Cpu}

theorem refl (w : List Reg8) (c : Cpu) : Frame w c.control c c := ⟨fun _ _ => rfl, rfl⟩

/-- A change of the control part alone keeps every register. -/
theorem ofControl (e : c' = { c with sp := k.sp, pc := k.pc, ime := k.ime, imePending := k.imePending, mode := k.mode }) :
    Frame w k c c' := by
  subst e
  exact ⟨fun r _ => by cases r <;> rfl, rfl⟩

theorem setFlags (h : Frame w k c c') (z n hf cf : Bool) : Frame w k c (c'.setFlags z n hf cf) :=
  ⟨fun r hr => (c'.setFlags_reg r z n hf cf).trans (h.regs r hr), h.control⟩

theorem setReg (h : Frame w k c c') {r : Reg8} (v : Byte) (hr : r ∈ w) : Frame w k c (c'.setReg r v) where
  regs q hq := (c'.setReg_reg_other v (ne_of_mem_of_not_mem hr hq).symm).trans (h.regs q hq)
  control := by
    rw [← h.control]
    cases r <;> rfl

/-- HL is the pair of the registers H and L (R22). -/
theorem setHL (h : Frame w k c c') (v : Word) (hh : .h ∈ w) (hl : .l ∈ w) : Frame w k c (c'.setHL v) :=
  (h.setReg (r := .h) (highByte v) hh).setReg (r := .l) (lowByte v) hl

/-- A write of a pair writes its two halves, or SP (R22). -/
theorem setPair (h : Frame w k c c') {p : Pair} (v : Word) (hw : ∀ r ∈ p.halves, r ∈ w) :
    Frame w { k with sp := if p = .sp then v else k.sp } c (c'.setPair p v) := by
  cases p with
  | bc => exact (h.setReg (r := .b) (highByte v) (hw _ (by decide))).setReg (r := .c) (lowByte v) (hw _ (by decide))
  | de => exact (h.setReg (r := .d) (highByte v) (hw _ (by decide))).setReg (r := .e) (lowByte v) (hw _ (by decide))
  | hl => exact h.setHL v (hw _ (by decide)) (hw _ (by decide))
  | sp =>
    obtain ⟨hregs, rfl⟩ := h
    exact ⟨fun r hr => (by cases r <;> rfl : _ = c'.reg r).trans (hregs r hr), rfl⟩

/-- A write of a stack pair writes its two halves, and F for AF (R22, R197). -/
theorem setStkPair (h : Frame w k c c') {p : StkPair} (v : Word) (hw : ∀ r ∈ p.halves, r ∈ w) :
    Frame w k c (c'.setStkPair p v) := by
  cases p with
  | bc => exact (h.setReg (r := .b) (highByte v) (hw _ (by decide))).setReg (r := .c) (lowByte v) (hw _ (by decide))
  | de => exact (h.setReg (r := .d) (highByte v) (hw _ (by decide))).setReg (r := .e) (lowByte v) (hw _ (by decide))
  | hl => exact h.setHL v (hw _ (by decide)) (hw _ (by decide))
  | af =>
    obtain ⟨hregs, hcontrol⟩ := h.setReg (r := .a) (highByte v) (hw _ (by decide))
    exact ⟨fun r hr => (by cases r <;> rfl : _ = (c'.setReg .a (highByte v)).reg r).trans (hregs r hr), hcontrol⟩

/-- A two-operand ALU operation writes A, but for CP, which leaves it (R234). -/
theorem alu (op : AluOp) (x : Byte) (c : Cpu) :
    Frame (if op = .cp then [] else [.a]) c.control c (c.alu op x) := by
  by_cases hop : op = .cp
  · subst hop
    exact (refl [] c).setFlags _ _ _ _
  · rw [if_neg hop]
    exact ((refl [.a] c).setReg (r := .a) _ (by decide)).setFlags _ _ _ _

end Cpu.Frame

/-! ## SP, PC, IME, `imePending` and the mode after an instruction -/

/-- PC after an instruction whose bytes were fetched: the target of a transfer that is taken (R291 to R305), else PC. -/
def pcAfter (f : Form) (s : State) : Word :=
  match f with
  | .jp addr => addr
  | .jpCond cc addr => if s.cpu.holds cc then addr else s.cpu.pc
  | .jpHL => s.cpu.hl
  | .jr e => s.cpu.pc + sext8 e
  | .jrCond cc e => if s.cpu.holds cc then s.cpu.pc + sext8 e else s.cpu.pc
  | .call addr => addr
  | .callCond cc addr => if s.cpu.holds cc then addr else s.cpu.pc
  | .ret => s.popValue
  | .retCond cc => if s.cpu.holds cc then s.idle.popValue else s.cpu.pc
  | .reti => s.popValue
  | .rst y => BitVec.ofNat 16 (8 * y.val)
  | _ => s.cpu.pc

section
variable (cc : Cond) (addr : Word) (e : Byte) (s : State)

@[simp] theorem pcAfter_jpCond : pcAfter (.jpCond cc addr) s = if s.cpu.holds cc then addr else s.cpu.pc := rfl
@[simp] theorem pcAfter_jrCond :
    pcAfter (.jrCond cc e) s = if s.cpu.holds cc then s.cpu.pc + sext8 e else s.cpu.pc := rfl
@[simp] theorem pcAfter_callCond : pcAfter (.callCond cc addr) s = if s.cpu.holds cc then addr else s.cpu.pc := rfl
@[simp] theorem pcAfter_retCond :
    pcAfter (.retCond cc) s = if s.cpu.holds cc then s.idle.popValue else s.cpu.pc := rfl
@[simp] theorem pcAfter_ei : pcAfter .ei s = s.cpu.pc := rfl

end

/-- The control part after an instruction: IME and `imePending` by DI, EI and RETI (R300, R327, R328), the mode by HALT and
STOP (R323, R324). -/
def controlAfter (f : Form) (s : State) : Control where
  sp := f.spAfter s.cpu
  pc := pcAfter f s
  ime := if f = .di then false else if f = .reti then true
    else if f = .ei ∧ s.cfg.eiDelay = false then true else s.cpu.ime
  imePending := if f = .di then false else if f = .ei ∧ s.cfg.eiDelay = true then true else s.cpu.imePending
  mode := match f with
    | .halt => .halted
    | .stop _ => .stopped
    | _ => s.cpu.mode

/-- The processor after every instruction, its computed values and flags left aside. -/
theorem run_frame (f : Form) (s : State) :
    Cpu.Frame f.writesRegs (controlAfter f s) s.cpu (f.run s).cpu := by
  have e0 : ∀ w, Cpu.Frame w s.cpu.control s.cpu s.cpu := fun w => .refl w s.cpu
  have fst : ∀ (r : Reg8) (w : List Reg8), r ∈ r :: w := fun r w => List.mem_cons_self
  have snd : ∀ q r : Reg8, r ∈ [q, r] := fun q r => List.mem_cons_of_mem _ (fst r [])
  cases f with
  | ldHLReg | ldHLImm | ldBCA | ldDEA | ldAbsA | ldhImmA | ldhCA | ldAbsSP | resHL | setHL | nop | undefined =>
    exact e0 _
  | ldRegReg | ldRegImm | ldRegHL | ldABC | ldADE | ldAAbs | ldhAImm | ldhAC | resReg | setReg =>
    exact (e0 _).setReg _ (fst _ _)
  | ldIncA | ldDecA => exact (e0 _).setHL _ (fst _ _) (snd _ _)
  | ldAInc | ldADec =>
    exact ((e0 _).setReg (r := .a) _ (fst _ _)).setHL _ (by decide) (by decide)
  | ldPairImm => exact (e0 _).setPair _ (fun _ h => h)
  | incPair r | decPair r =>
    have h := fun v => (e0 r.halves).setPair (p := r) v (fun _ h => h)
    cases r with
    | bc | de | hl | sp => exact h _
  | scf | ccf | incHL | decHL | shiftHL | bitReg | bitHL => exact (e0 _).setFlags _ _ _ _
  | addHL | ldHLSPe => exact ((e0 _).setHL _ (fst _ _) (snd _ _)).setFlags _ _ _ _
  | aluReg op | aluHL op | aluImm op => exact .alu op _ s.cpu
  | incReg | decReg | shiftReg => exact ((e0 _).setReg _ (fst _ _)).setFlags _ _ _ _
  | daa | cpl | rlca | rla | rrca | rra => exact ((e0 _).setReg (r := .a) _ (fst _ _)).setFlags _ _ _ _
  | pop dst =>
    have hsp : Cpu.Frame dst.halves (controlAfter (.pop dst) s) s.cpu s.pop16.cpu := .ofControl (State.pop16_cpu s)
    exact hsp.setStkPair s.popValue (fun _ h => h)
  | addSPe e =>
    have hsp : Cpu.Frame [] (controlAfter (.addSPe e) s) s.cpu { s.cpu with sp := s.cpu.sp + sext8 e } := .ofControl rfl
    exact hsp.setFlags _ _ _ _
  | ldSPHL | jp | jpHL | jr | halt | stop | di => exact .ofControl rfl
  | push src => exact .ofControl (State.push16_cpu s.idle _)
  | call | rst => exact .ofControl (callTo_cpu _ s)
  | ret => exact .ofControl (returnFrom_cpu s)
  | reti => exact .ofControl (congrArg (fun c : Cpu => { c with ime := true }) (returnFrom_cpu s))
  | jpCond cc | jrCond cc | callCond cc | retCond cc =>
    refine .ofControl ?_
    by_cases h : s.cpu.holds cc = true <;>
      simp [Form.run, opJpCond, opJrCond, opCallCond, opRetCond, controlAfter, Form.spAfter, h]
  | ei =>
    refine .ofControl ?_
    cases h : s.cfg.eiDelay <;> simp [Form.run, opEi, controlAfter, Form.spAfter, h]

/-- Settles O31, by the frame of every instruction; a conditional transfer that is not taken has PC as its target. -/
theorem processorFrame : Obligations.ProcessorFrame := by
  unfold Obligations.ProcessorFrame
  intro f s t ht
  rw [exec_eq, form_instr] at ht
  cases ht
  obtain ⟨hregs, hcontrol⟩ := run_frame f s
  have hpc : (f.run s).cpu.pc = pcAfter f s := congrArg Control.pc hcontrol
  refine ⟨hregs, congrArg Control.sp hcontrol, ?_, congrArg Control.ime hcontrol,
    congrArg Control.imePending hcontrol, congrArg Control.mode hcontrol, fun hf => ?_, run_cfg f s⟩
  · cases f with
    | jp | jpHL | jr | call | ret | reti | rst => trivial
    | jpCond cc | jrCond cc | callCond cc | retCond cc =>
      exact fun h => hpc.trans (if_neg (h ▸ Bool.false_ne_true))
    | _ => exact hpc
  · rw [run_outside]
    cases f with
    | undefined code => exact absurd rfl (hf code)
    | _ => rfl

end Sys2Proof.Machine
end

section
/-! PROOFS. The events of a line (O57): the timer unit's part of a tick, the three parts of `PixelTick()`, and what they
make of the request flags. -/

namespace Sys2Proof.Machine

/-! ## The request flags -/

/-- `RequestInterrupt(k)` sets bit k and no other (R346). -/
@[simp] theorem requestInterrupt_bit (k : Nat) (u : Units) {j : Nat} (hj : j < 5) :
    (requestInterrupt k u).timer.intFlag.getLsbD j = (u.timer.intFlag.getLsbD j || decide (j = k)) := by
  have hone : (1#5 <<< k).getLsbD j = decide (j = k) := by
    rw [BitVec.getLsbD_shiftLeft, BitVec.getLsbD_one]
    simp only [hj, decide_true, Bool.true_and, ← decide_not, ← Bool.decide_and]
    congr 1
    exact propext (by omega)
  show (u.timer.intFlag ||| (1#5 <<< k)).getLsbD j = _
  rw [BitVec.getLsbD_or, hone]

/-- A STAT source requests interrupt 1 exactly when it is enabled (R437). -/
theorem requestStat_bit (n : Nat) (u : Units) {j : Nat} (hj : j < 5) :
    (requestStat n u).timer.intFlag.getLsbD j = (u.timer.intFlag.getLsbD j || (statBit u.ppu n && decide (j = 1))) := by
  unfold requestStat
  split
  · rename_i h
    rw [requestInterrupt_bit 1 u hj, h, Bool.true_and]
  · rename_i h
    rw [Bool.eq_false_iff.2 h, Bool.false_and, Bool.or_false]

/-- The same for interrupt 1 itself. -/
theorem requestStat_bit_one (n : Nat) (u : Units) :
    (requestStat n u).timer.intFlag.getLsbD 1 = (u.timer.intFlag.getLsbD 1 || statBit u.ppu n) :=
  (requestStat_bit n u (j := 1) (by decide)).trans (congrArg _ (Bool.and_true _))

/-! ## The timer unit's part of a tick -/

/-- The DIV and TIMA steps leave LY and interrupt 1 alone (R383, R385). -/
theorem divTima_line (u : Units) :
    (timaStep (divStep u)).timer.ly = u.timer.ly ∧
      (timaStep (divStep u)).timer.intFlag.getLsbD 1 = u.timer.intFlag.getLsbD 1 := by
  have hdiv : (divStep u).timer.ly = u.timer.ly ∧ (divStep u).timer.intFlag = u.timer.intFlag := by
    unfold divStep
    split <;> exact ⟨rfl, rfl⟩
  obtain ⟨hly, hflag⟩ := hdiv
  rw [← hly, ← hflag]
  unfold timaStep
  dsimp only
  split
  · split
    · exact ⟨rfl, (requestInterrupt_bit 2 _ (j := 1) (by decide)).trans (Bool.or_false _)⟩
    · exact ⟨rfl, rfl⟩
  · exact ⟨rfl, rfl⟩

/-- Within a line the timer unit changes neither LY nor interrupt 1 (R389, R390). -/
theorem timerTick_within_line {u : Units} (h : BitVec.ofNat 8 (u.cycles / lineCycles) = u.timer.ly) :
    (timerTick u).timer.ly = u.timer.ly ∧ (timerTick u).timer.intFlag.getLsbD 1 = u.timer.intFlag.getLsbD 1 := by
  have hcycles : (timaStep (divStep u)).cycles = u.cycles := ((divStep_only u).trans (timaStep_only _)).cycles
  obtain ⟨hly, hflag⟩ := divTima_line u
  have hsame : timerTick u = timaStep (divStep u) := if_pos (by rw [hcycles, hly, h])
  rw [hsame]
  exact ⟨hly, hflag⟩

/-- At the start of line LYC the timer unit requests interrupt 1 when STAT bit 6 enables it (R390). -/
theorem timerTick_lyc_request {u : Units} (h : BitVec.ofNat 8 (u.cycles / lineCycles) ≠ u.timer.ly)
    (hlyc : BitVec.ofNat 8 (u.cycles / lineCycles) = u.timer.lyc) (hstat : statBit u.ppu 6 = true) :
    (timerTick u).timer.intFlag.getLsbD 1 = true := by
  have hbase := (divStep_only u).trans (timaStep_only _)
  have hcycles := hbase.cycles
  have hlyc' : (timaStep (divStep u)).timer.lyc = u.timer.lyc := congrArg Held.lyc hbase.held
  obtain ⟨hly, -⟩ := divTima_line u
  have hnew : timerTick u = compareLYC { timaStep (divStep u) with
      timer := { (timaStep (divStep u)).timer with ly := BitVec.ofNat 8 ((timaStep (divStep u)).cycles / lineCycles) } } :=
    if_neg (by rw [hcycles, hly]; exact h)
  rw [hnew, compareLYC, if_pos ⟨by rw [hcycles, hlyc']; exact hlyc, by rw [hbase.ppu]; exact hstat⟩,
    requestInterrupt_bit 1 _ (by decide)]
  exact Bool.or_true _

/-! ## The parts of `PixelTick()` (R411) -/

/-- A disabled LCD marks the frame blank, an enabled one leaves the mark (R411, R434). -/
theorem blankStep_eq (u : Units) :
    blankStep u = { u with ppu := { u.ppu with blankFrame := u.ppu.blankFrame || !(lcdcBit u.ppu 7) } } := by
  unfold blankStep
  split
  · rename_i h
    rw [h, Bool.not_true, Bool.or_false]
  · rename_i h
    rw [Bool.eq_false_iff.2 h, Bool.not_false, Bool.or_true]

/-- Where the mode controller leaves another mode than 3, nothing is drawn. -/
theorem pixelTick_of_ne_draw {u : Units} (h : (modeStep u).ppu.mode ≠ .draw) : pixelTick u = blankStep (modeStep u) := by
  obtain ⟨hmode, -⟩ := blankStep_mode (modeStep u)
  exact if_neg (hmode ▸ h)

@[simp] theorem blankStep_bus (u : Units) : (blankStep u).bus = u.bus := by rw [blankStep_eq]

@[simp] theorem blankStep_timer (u : Units) : (blankStep u).timer = u.timer := by rw [blankStep_eq]

/-- The start of a visible line: Mode 2, with its request (R411, R415, R437). -/
theorem pixelTick_visibleLine {u : Units} (hd : u.cycles % lineCycles = 0) (hl : u.timer.ly.toNat < 144) :
    (pixelTick u).ppu.mode = .oamScan ∧ (pixelTick u).bus.oamBlocked = true ∧ (pixelTick u).bus.vramBlocked = false ∧
      (pixelTick u).timer.intFlag.getLsbD 1 = (u.timer.intFlag.getLsbD 1 || statBit u.ppu 5) := by
  obtain ⟨v, hmode, hflag, hstat⟩ : ∃ v, modeStep u = enterMode2 v ∧ v.timer.intFlag = u.timer.intFlag ∧
      statBit v.ppu 5 = statBit u.ppu 5 := by
    unfold modeStep
    dsimp only
    rw [if_pos hd, if_pos hl]
    split
    · exact ⟨frameStart u, rfl, rfl, rfl⟩
    · exact ⟨u, rfl, rfl, rfl⟩
  have hppu : (modeStep u).ppu.mode = .oamScan := by rw [hmode, enterMode2_ppu]
  obtain ⟨hblank, -⟩ := blankStep_mode (modeStep u)
  rw [pixelTick_of_ne_draw (by rw [hppu]; decide), hblank, hppu, blankStep_bus, blankStep_timer, hmode, enterMode2_bus,
    ← hflag, ← hstat]
  exact ⟨rfl, rfl, rfl, requestStat_bit_one 5 _⟩

/-- The start of line 144: Mode 1, the ready mark and the VBlank request, with Mode 1's own (R411, R417, R437). -/
theorem pixelTick_vblankLine {u : Units} (hd : u.cycles % lineCycles = 0) (hl : u.timer.ly.toNat = 144) :
    (pixelTick u).ppu.mode = .vblank ∧ (pixelTick u).bus.oamBlocked = false ∧ (pixelTick u).bus.vramBlocked = false ∧
      (pixelTick u).ppu.frameReady = true ∧ (pixelTick u).timer.intFlag.getLsbD 0 = true ∧
      (pixelTick u).timer.intFlag.getLsbD 1 = (u.timer.intFlag.getLsbD 1 || statBit u.ppu 4) := by
  have hmode : modeStep u = enterMode1 u := by
    unfold modeStep
    dsimp only
    rw [if_pos hd, hl]
    rfl
  have hppu : (modeStep u).ppu.mode = .vblank := by rw [hmode, enterMode1_ppu]
  obtain ⟨hblank, -, -, hready⟩ := blankStep_mode (modeStep u)
  rw [pixelTick_of_ne_draw (by rw [hppu]; decide), hblank, hready, hppu, blankStep_bus, blankStep_timer, hmode,
    enterMode1_bus, enterMode1_ppu]
  refine ⟨rfl, rfl, rfl, rfl, ?_, ?_⟩
  · refine (requestStat_bit 4 _ (by decide)).trans (Bool.or_eq_true_iff.2 (.inl ?_))
    exact (requestInterrupt_bit 0 (enterMode .vblank u) (by decide)).trans (Bool.or_true _)
  · refine (requestStat_bit_one 4 _).trans (congrArg (· || _) ?_)
    exact (requestInterrupt_bit 0 (enterMode .vblank u) (j := 1) (by decide)).trans (Bool.or_false _)

/-- The start of a later line: the pipeline requests nothing (R411). -/
theorem pixelTick_lateLine {u : Units} (hd : u.cycles % lineCycles = 0) (hl : 144 < u.timer.ly.toNat)
    (hm : u.ppu.mode ≠ .draw) : (pixelTick u).timer = u.timer := by
  have hmode : modeStep u = u := by
    unfold modeStep
    dsimp only
    rw [if_pos hd, if_neg (by omega), if_neg (by omega), if_neg (by omega)]
  rw [pixelTick_of_ne_draw (hmode.symm ▸ hm), hmode, blankStep_timer]

/-- An interrupt 1 requested by the timer unit at a line start stands after the pipeline's part of the tick. -/
theorem pixelTick_lineStart_keeps_request {u : Units} (hd : u.cycles % lineCycles = 0)
    (hm : 144 < u.timer.ly.toNat → u.ppu.mode ≠ .draw) (h : u.timer.intFlag.getLsbD 1 = true) :
    (pixelTick u).timer.intFlag.getLsbD 1 = true := by
  obtain hl | hl | hl := Nat.lt_trichotomy u.timer.ly.toNat 144
  · obtain ⟨-, -, -, hflag⟩ := pixelTick_visibleLine hd hl
    rw [hflag, h, Bool.true_or]
  · obtain ⟨-, -, -, -, -, hflag⟩ := pixelTick_vblankLine hd hl
    rw [hflag, h, Bool.true_or]
  · rw [pixelTick_lateLine hd hl (hm hl), h]

/-- Dot 80 of a visible line: Mode 3 from the start of a line's drawing, the fetcher's first dot taken (R411, R420 to
R422). -/
theorem pixelTick_dot80 {u : Units} (hd : u.cycles % lineCycles = 80) (hl : u.timer.ly.toNat < 144) :
    pixelTick u = { enterMode3 u with ppu := { (enterMode3 u).ppu with
      fetchDot := true, blankFrame := u.ppu.blankFrame || !(lcdcBit u.ppu 7) } } := by
  have hmode : modeStep u = enterMode3 u := by
    unfold modeStep
    dsimp only
    rw [if_neg (by omega), if_pos ⟨hd, hl⟩]
  rw [pixelTick, hmode, blankStep_eq]
  rfl

/-- The end of a line's drawing: Mode 0, with its request, and no pixel (R411, R416, R437). -/
theorem pixelTick_lineDrawn {u : Units} (hd : u.cycles % lineCycles ≠ 0) (h80 : u.cycles % lineCycles ≠ 80)
    (hm : u.ppu.mode = .draw) (hx : u.ppu.lcdX = 160) : pixelTick u = enterMode0 (blankStep u) := by
  have hmode : modeStep u = u := by
    unfold modeStep
    dsimp only
    rw [if_neg hd, if_neg (fun h => h80 h.1)]
  rw [pixelTick, hmode, blankStep_eq]
  exact (if_pos hm).trans (if_pos hx)

/-! ## The line and the dot after a tick -/

theorem dot_after (c : Nat) : (c + 1) % frameCycles % lineCycles = (c + 1) % lineCycles :=
  Nat.mod_mod_of_dvd _ (by decide)

/-- The line changes exactly at its dot 0. -/
theorem line_after {c : Nat} (hc : c < frameCycles) :
    (c + 1) % frameCycles / lineCycles = c / lineCycles ↔ (c + 1) % lineCycles ≠ 0 := by
  simp only [frameCycles, lineCycles] at *
  omega

/-- A line number as LY holds it. -/
theorem line_toNat (c : Nat) : (BitVec.ofNat 8 (c % frameCycles / lineCycles)).toNat = c % frameCycles / lineCycles := by
  rw [BitVec.toNat_ofNat]
  simp only [frameCycles, lineCycles]
  omega

theorem line_eq_iff (c : Nat) (b : Byte) :
    BitVec.ofNat 8 (c % frameCycles / lineCycles) = b ↔ c % frameCycles / lineCycles = b.toNat := by
  rw [← BitVec.toNat_inj, line_toNat]

/-! ## A tick by the line and the dot it reaches -/

/-- A tick starts no new line: LY and interrupt 1 stay through its timer unit (R389, R390). -/
theorem tick_timer_within_line {u : Units} (h : u.Inv) (hd : (u.cycles + 1) % lineCycles ≠ 0) :
    (timerTick (advanceCycle u)).timer.ly = u.timer.ly ∧
      (timerTick (advanceCycle u)).timer.intFlag.getLsbD 1 = u.timer.intFlag.getLsbD 1 :=
  timerTick_within_line ((line_eq_iff _ _).2 (((line_after h.cycles_lt).2 hd).trans h.ly_eq.symm))

/-- A tick starts line LYC: its timer unit requests interrupt 1 when STAT bit 6 enables it (R390). -/
theorem tick_timer_lyc {u : Units} (h : u.Inv) (hd : (u.cycles + 1) % lineCycles = 0)
    (hlyc : u.timer.lyc.toNat = (u.cycles + 1) % frameCycles / lineCycles) (hstat : statBit u.ppu 6 = true) :
    (timerTick (advanceCycle u)).timer.intFlag.getLsbD 1 = true := by
  refine timerTick_lyc_request (u := advanceCycle u) (fun e => ?_) ((line_eq_iff _ _).2 hlyc.symm) hstat
  exact (line_after h.cycles_lt).1 (((line_eq_iff _ _).1 e).trans h.ly_eq) hd

/-- No tick starts a line after 144 in Mode 3: Mode 1 lasts from line 144 to the end of the frame (R412). -/
theorem not_draw_before_lateLine {u : Units} (h : u.Inv) (hl : 144 < (u.cycles + 1) % frameCycles / lineCycles) :
    u.ppu.mode ≠ .draw := by
  intro hm
  have hv := h.vblank_iff
  rw [hm, h.ly_eq] at hv
  have hlow : ¬ 144 ≤ u.cycles / lineCycles := fun hle => nomatch hv.2 hle
  have hc := h.cycles_lt
  simp only [frameCycles, lineCycles] at *
  omega

/-- Mode 3 has begun before the dots it is found at: no tick reaches dot 80 in it (R412). -/
theorem dot_ne_80_of_draw {u : Units} (h : u.Inv) (hm : u.ppu.mode = .draw) : (u.cycles + 1) % lineCycles ≠ 80 := by
  have hv := h.vblank_iff
  have hs := h.scan_iff
  rw [hm] at hv hs
  have hvisible : u.timer.ly.toNat < 144 := Nat.lt_of_not_le fun hle => nomatch hv.2 hle
  have hlate : ¬ u.cycles % lineCycles < 80 := fun hlt => nomatch (hs hvisible).2 hlt
  simp only [lineCycles] at *
  omega

/-- The OAM scan depends on OAM, LY and LCDC alone (R418). -/
theorem scanOam_congr {u v : Units} (hmem : v.bus.mem = u.bus.mem) (hly : v.timer.ly = u.timer.ly)
    (hlcdc : v.ppu.lcdc = u.ppu.lcdc) : scanOam v = scanOam u := by
  have hselects : scanSelects v = scanSelects u := by
    funext i
    unfold scanSelects oamByte spriteHeight lcdcBit
    rw [hmem, hly, hlcdc]
  rw [scanOam, hselects, scanOam]

/-- Settles O57: the tick reaches dot 0, dot 80 of a visible line, or a later dot of a line already drawn. -/
theorem lineEvents : Obligations.LineEvents := by
  unfold Obligations.LineEvents
  intro u h line dot v
  have hbase := timerTick_only (advanceCycle u)
  have hdot : (timerTick (advanceCycle u)).cycles % lineCycles = dot :=
    (congrArg (· % lineCycles) hbase.cycles).trans (dot_after u.cycles)
  have hppu : (timerTick (advanceCycle u)).ppu = u.ppu := hbase.ppu
  have hbus : (timerTick (advanceCycle u)).bus = u.bus := hbase.bus
  have hline : (timerTick (advanceCycle u)).timer.ly.toNat = line :=
    timerTick_ly (advanceCycle u) (Nat.mod_lt _ (by decide))
  refine ⟨fun hd => ⟨fun hlyc hstat => ?_, fun hl => ?_, fun hl => ?_⟩, fun hd hl => ?_, fun hd hm hx => ?_⟩
  · refine pixelTick_lineStart_keeps_request (hdot.trans hd) (fun hl => ?_) (tick_timer_lyc h hd hlyc hstat)
    rw [hppu]
    exact not_draw_before_lateLine h (hl.trans_eq hline)
  · obtain ⟨hmode, hoam, hvram, hflag⟩ := pixelTick_visibleLine (hdot.trans hd) (hline.trans_lt hl)
    refine ⟨hmode, hoam, hvram, fun hstat => hflag.trans ?_⟩
    rw [hppu, Bool.or_eq_true]
    exact .inr hstat
  · obtain ⟨hmode, hoam, hvram, hready, hvblank, hflag⟩ := pixelTick_vblankLine (hdot.trans hd) (hline.trans hl)
    refine ⟨hmode, hoam, hvram, hready, hvblank, fun hstat => hflag.trans ?_⟩
    rw [hppu, Bool.or_eq_true]
    exact .inr hstat
  · obtain ⟨hly, hflag⟩ := tick_timer_within_line h (fun e => nomatch e.symm.trans hd)
    have hscan : scanOam (timerTick (advanceCycle u)) = scanOam u :=
      scanOam_congr (by rw [hbus]) hly (by rw [hppu])
    have hv : v = _ := pixelTick_dot80 (hdot.trans hd) (hline.trans_lt hl)
    rw [hv]
    refine ⟨rfl, rfl, hflag, ?_⟩
    rw [← hscan, ← hppu]
    rfl
  · obtain ⟨-, hflag⟩ := tick_timer_within_line h hd
    have hv : v = _ := pixelTick_lineDrawn (fun e => hd (hdot.symm.trans e))
      (fun e => dot_ne_80_of_draw h hm (hdot.symm.trans e)) (hppu.symm ▸ hm) (hppu.symm ▸ hx)
    have hstat : v.timer.intFlag.getLsbD 1 = (u.timer.intFlag.getLsbD 1 || statBit u.ppu 3) := by
      rw [hv, ← hflag, ← hppu, blankStep_eq]
      exact requestStat_bit_one 3 _
    refine ⟨?_, ?_, ?_, ?_, fun hon => ?_, fun hoff => ?_⟩
    · rw [hv, enterMode0_ppu]
    · rw [hv, enterMode0_bus]
    · rw [hv, enterMode0_bus]
    · rw [hv, enterMode0_ppu, blankStep_eq, hppu]
    · rw [hstat, Bool.or_eq_true]
      exact .inr hon
    · exact hstat.trans ((congrArg (_ || ·) hoff).trans (Bool.or_false _))

end Sys2Proof.Machine
end

section
/-! PROOFS. An instruction that stores nothing: its machine cycles are ticks alone (O33). -/

namespace Sys2Proof.Machine

/-- Machine cycles that store nowhere are four ticks each (R73). -/
theorem StoresAt.eq_ticks {cfg : Config} {u v : Units} {n : Nat} (h : StoresAt cfg [] u n v) : v = ticks (4 * n) u := by
  induction h with
  | refl => rfl
  | idle _ ih => rw [ih, ← ticks_add, Nat.mul_succ]
  | write _ hw => exact nomatch hw

/-- The cycles an instruction costs beyond its fetch are those of its machine cycles after it (R510). -/
theorem cost_sub_fetch (f : Form) (c : Cpu) : f.cost (f.taken c) - 4 * f.instr.length = 4 * tailCycles f c := by
  rw [instr_length, cost_eq, Nat.mul_add, Nat.add_sub_cancel_left]

/-- Settles O33, by the machine cycles of an instruction with no store among them. -/
theorem timeFrame : Obligations.TimeFrame := by
  unfold Obligations.TimeFrame
  intro f s t ht hs
  rw [exec_eq, form_instr] at ht
  cases ht
  have hrun := run_storesAt f s
  rw [hs] at hrun
  have hunits := hrun.eq_ticks
  exact ⟨cost_sub_fetch f s.cpu ▸ hunits, hunits ▸ ticks_held _ _⟩

end Sys2Proof.Machine
end

section
/-! PROOFS. WRAM and HRAM read back through either address (O43). -/

namespace Sys2Proof.Machine

/-- A byte of WRAM or HRAM is reached under its own address and, where WRAM has an echo, 0x2000 above it (R83, R84,
R88). -/
theorem reachesRam_own_or_echo {a w : Word} (hw : Rule.plainRam w)
    (ha : a = w ∨ w.toNat ≤ 0xDDFF ∧ a = w + 0x2000#16) : ReachesRam a.toNat w.toNat := by
  unfold Rule.plainRam at hw
  unfold ReachesRam
  obtain rfl | ⟨hecho, rfl⟩ := ha
  · omega
  · have hsum : (w + 0x2000#16).toNat = w.toNat + 0x2000 := by bv_omega
    omega

/-- Settles O43: both addresses reach the byte stored, and ticks leave the memories alone. -/
theorem workRamReadBack : Obligations.WorkRamReadBack := by
  unfold Obligations.WorkRamReadBack
  rintro s a b v n hwf ⟨w, hw, ha, hb⟩
  rw [readByte_ram _ (reachesRam_own_or_echo hw hb), State.mapUnits_units, ticks_mem,
    writeByte_mem v s (reachesRam_own_or_echo hw ha), Memory.read_write_same _ _ hwf]

end Sys2Proof.Machine
end

section
/-! PROOFS. The address decoder: a region is given to exactly the addresses of its range (O40). -/

namespace Sys2Proof.Machine

/-- Every address lies in the range of the region the decoder gives it (R72). -/
theorem region_range (a : Nat) (bank : Byte) : (region a bank).Range a bank := by
  by_cases ho : a ≤ 0x00FF ∧ bank = 0x00#8
  · rw [region, if_pos ho]
    exact ho
  · have hb := region_bounds a bank
    have hne : region a bank ≠ .bootOverlay := by
      rw [region, if_neg ho]
      repeat' split
      all_goals exact nofun
    generalize region a bank = r at hb hne ⊢
    cases r with
    | bootOverlay => exact absurd rfl hne
    | rom0 => exact ⟨hb, ho⟩
    | _ => exact hb

/-- The decoder gives an address a region exactly when the address lies in its range (R72). -/
theorem region_eq_iff {a : Nat} {bank : Byte} {r : Region} : region a bank = r ↔ r.Range a bank :=
  ⟨fun h => h ▸ region_range a bank, region_of_range⟩

/-- Settles O40, by the range of each region. -/
theorem regionPartition : Obligations.RegionPartition := by
  unfold Obligations.RegionPartition
  intro a bank ha
  exact ⟨region_eq_iff, region_eq_iff, region_eq_iff, region_eq_iff, region_eq_iff, region_eq_iff, region_eq_iff,
    region_eq_iff, region_eq_iff, region_eq_iff, region_eq_iff, region_eq_iff.trans ha.ge_iff_eq⟩

end Sys2Proof.Machine
end

section
/-! PROOFS. The I/O register file, slot by slot (O42). -/

namespace Sys2Proof.Machine

/-- The slots of the register file lie in the I/O region (R91). -/
theorem ioRegAt_bounds {a : Nat} {r : IoReg} (h : ioRegAt a = some r) : 0xFF00 ≤ a ∧ a ≤ 0xFF7F := by
  unfold ioRegAt at h
  split at h
  case h_17 => exact nomatch h
  all_goals decide

theorem implementedAt_eq_some {cfg : Config} {a : Nat} {r : IoReg} (hr : ioRegAt a = some r)
    (hi : cfg.ioImplemented.contains r = true) : implementedAt cfg a = some r := by
  rw [implementedAt, hr]
  exact if_pos hi

theorem implementedAt_eq_none {cfg : Config} {a : Nat}
    (h : ∀ r, ioRegAt a = some r → cfg.ioImplemented.contains r = false) : implementedAt cfg a = none := by
  unfold implementedAt
  cases hr : ioRegAt a with
  | none => rfl
  | some r => exact if_neg (Bool.eq_false_iff.1 (h r hr))

section
variable (cfg : Config) (latch : InputLatch) (u : Units) (v : Byte) {addr : Word}

/-- The transfers of an implemented slot are its register's (R91). -/
theorem io_transfer_implemented {r : IoReg} (hr : ioRegAt addr.toNat = some r)
    (hi : cfg.ioImplemented.contains r = true) :
    busRead cfg latch u addr = ioRead latch u r ∧ busWrite cfg addr v u = ioWrite v u r := by
  simp only [busRead, busWrite, region_of_range (r := .io) (ioRegAt_bounds hr), implementedAt_eq_some hr hi, and_self]

/-- An unimplemented slot reads 0xFF and ignores writes (R92). -/
theorem io_transfer_unimplemented (hio : 0xFF00 ≤ addr.toNat ∧ addr.toNat ≤ 0xFF7F)
    (h : ∀ r, ioRegAt addr.toNat = some r → cfg.ioImplemented.contains r = false) :
    busRead cfg latch u addr = 0xFF#8 ∧ busWrite cfg addr v u = u := by
  simp only [busRead, busWrite, region_of_range (r := .io) hio, implementedAt_eq_none h, and_self]

end

/-- The period of each clock select (R385). -/
theorem timaPeriod_eq (tac : BitVec 3) :
    timaPeriod tac = if tac.toNat % 4 = 0 then 1024 else if tac.toNat % 4 = 1 then 16
      else if tac.toNat % 4 = 2 then 64 else 256 := by
  revert tac
  decide

/-- A TAC write that enables the timer, or changes the rate of an enabled one, starts a period (R387). -/
theorem writeTAC_restart {v : Byte} {u : Units} (h : tacEnabled (v.setWidth 3) = true ∧
    (tacEnabled u.timer.tac = false ∨ u.timer.tac.toNat % 4 ≠ (v.setWidth 3 : BitVec 3).toNat % 4)) :
    writeTAC v u = { u with timer := { u.timer with
      tac := v.setWidth 3, nextTIMACycle := (u.cycles + timaPeriod (v.setWidth 3)) % frameCycles } } :=
  if_pos h

/-- Any other TAC write sets TAC alone (R387). -/
theorem writeTAC_keep {v : Byte} {u : Units} (h : ¬(tacEnabled (v.setWidth 3) = true ∧
    (tacEnabled u.timer.tac = false ∨ u.timer.tac.toNat % 4 ≠ (v.setWidth 3 : BitVec 3).toNat % 4))) :
    writeTAC v u = { u with timer := { u.timer with tac := v.setWidth 3 } } :=
  if_neg h

/-- Settles O42, a slot at a time: TAC by the two outcomes of its write, every other register by its table row. -/
theorem ioRegisterFile : Obligations.IoRegisterFile := by
  unfold Obligations.IoRegisterFile
  intro cfg latch u v reads writes impl newTac restart period
  have slot : ∀ (addr : Word) (r : IoReg), ioRegAt addr.toNat = some r → impl r →
      reads addr (ioRead latch u r) ∧ writes addr (ioWrite v u r) :=
    fun _ _ hr hi => io_transfer_implemented cfg latch u v hr hi
  refine ⟨slot _ .joyp rfl, slot _ .div rfl, slot _ .tima rfl, slot _ .tma rfl, fun hi => ?_, slot _ .intFlag rfl,
    slot _ .lcdc rfl, slot _ .stat rfl, slot _ .scy rfl, slot _ .scx rfl, slot _ .ly rfl, slot _ .lyc rfl,
    slot _ .bgp rfl, slot _ .obp0 rfl, slot _ .obp1 rfl, slot _ .bank rfl,
    fun _ hlo hhi h => io_transfer_unimplemented cfg latch u v ⟨hlo, hhi⟩ h⟩
  obtain ⟨hread, hwrite⟩ := slot 0xFF07#16 .tac rfl hi
  have hperiod : timaPeriod newTac = period := timaPeriod_eq newTac
  refine ⟨hread, fun hr => ?_, fun hr => ?_⟩
  · exact hperiod ▸ hwrite.trans (writeTAC_restart hr)
  · exact hwrite.trans (writeTAC_keep hr)

end Sys2Proof.Machine
end

section
/-! PROOFS. The decoder against the encoder (O23 to O26): every entry's instructions are encoded from the byte the entry
stands under (`decodeFirst_encoded`), and every well-formed form decodes from its encoding (`decode_encode_instr`). -/

namespace Sys2Proof

open Machine

/-! ## The encoding of an entry -/

/-- An entry's instructions are encoded by the byte `op`, then the operand, a 16-bit one low byte first (R120, R124). -/
def Entry.EncodedBy (op : Byte) : Entry → Prop
  | .one f => encode f.instr = [op]
  | .two f => ∀ b, encode (f b).instr = [op, b]
  | .three f => ∀ w, encode (f w).instr = [op, lowByte w, highByte w]

/-- The opcode byte of the fields x, y and z (R121). -/
def opcodeOf (x : Fin 4) (y z : Fin 8) : Byte := BitVec.ofNat 8 (64 * x + 8 * y + z)

/-- Every byte is the opcode byte of its fields. -/
theorem exists_opcodeOf (op : Byte) : ∃ x y z, opcodeOf x y z = op := by
  have hlt := op.isLt
  refine ⟨⟨fieldX op, ?_⟩, ⟨fieldY op, ?_⟩, ⟨fieldZ op, ?_⟩, BitVec.eq_of_toNat_eq ?_⟩ <;>
    simp only [opcodeOf, fieldX, fieldY, fieldZ, BitVec.toNat_ofNat] <;> omega

/-- Field x of an opcode byte is the x it was made of. -/
theorem fieldX_opcodeOf (x : Fin 4) (y z : Fin 8) : fieldX (opcodeOf x y z) = x := by
  simp only [opcodeOf, fieldX, BitVec.toNat_ofNat]
  omega

/-- The CB page: the prefix, then the opcode byte (R127). -/
theorem encode_decodeCB : ∀ op : Byte, encode (decodeCB op).instr = [0xCB#8, op] := by decide

/-- The base page, x = 0 (R126), row z = 0 to 7 in order: by evaluation at each y. -/
theorem decodeX0_encoded (y z : Fin 8) : (decodeX0 (opcodeOf 0 y z)).EncodedBy (opcodeOf 0 y z) := by
  fin_cases z
  · fin_cases y
    exacts [rfl, fun _ => rfl, fun _ => rfl, fun _ => rfl, fun _ => rfl, fun _ => rfl, fun _ => rfl, fun _ => rfl]
  · fin_cases y
    exacts [fun _ => rfl, rfl, fun _ => rfl, rfl, fun _ => rfl, rfl, fun _ => rfl, rfl]
  · fin_cases y <;> rfl
  · fin_cases y <;> rfl
  · fin_cases y <;> rfl
  · fin_cases y <;> rfl
  · fin_cases y <;> exact fun _ => rfl
  · fin_cases y <;> rfl

/-- The base page, x = 1: one-byte instructions alone (R126). -/
theorem decodeX1_encoded (y z : Fin 8) : (decodeX1 (opcodeOf 1 y z)).EncodedBy (opcodeOf 1 y z) := by
  fin_cases y <;> fin_cases z <;> rfl

/-- The base page, x = 2: one-byte instructions alone (R126). -/
theorem decodeX2_encoded (y z : Fin 8) : (decodeX2 (opcodeOf 2 y z)).EncodedBy (opcodeOf 2 y z) := by
  fin_cases y <;> fin_cases z <;> rfl

/-- The base page, x = 3 (R126), row z = 0 to 7 in order: by evaluation at each y, and by the CB page under its prefix. -/
theorem decodeX3_encoded (y z : Fin 8) : (decodeX3 (opcodeOf 3 y z)).EncodedBy (opcodeOf 3 y z) := by
  fin_cases z
  · fin_cases y
    exacts [rfl, rfl, rfl, rfl, fun _ => rfl, fun _ => rfl, fun _ => rfl, fun _ => rfl]
  · fin_cases y <;> rfl
  · fin_cases y
    exacts [fun _ => rfl, fun _ => rfl, fun _ => rfl, fun _ => rfl, rfl, fun _ => rfl, rfl, fun _ => rfl]
  · fin_cases y
    exacts [fun _ => rfl, encode_decodeCB, rfl, rfl, rfl, rfl, rfl, rfl]
  · fin_cases y
    exacts [fun _ => rfl, fun _ => rfl, fun _ => rfl, fun _ => rfl, rfl, rfl, rfl, rfl]
  · fin_cases y
    exacts [rfl, fun _ => rfl, rfl, rfl, rfl, rfl, rfl, rfl]
  · fin_cases y <;> exact fun _ => rfl
  · fin_cases y <;> rfl

/-- Every entry of the opcode maps is encoded by the byte it stands under (R126, R127). -/
theorem decodeFirst_encoded (op : Byte) : (decodeFirst op).EncodedBy op := by
  obtain ⟨x, y, z, rfl⟩ := exists_opcodeOf op
  rw [decodeFirst, fieldX_opcodeOf]
  fin_cases x
  · exact decodeX0_encoded y z
  · exact decodeX1_encoded y z
  · exact decodeX2_encoded y z
  · exact decodeX3_encoded y z

/-! ## What an entry reads -/

/-- The instruction an entry reads is well formed (R129). -/
theorem Entry.Ok.read_wf {e : Entry} {bs rest : List Byte} {i : Instr} (h : e.Ok) (hr : e.read bs = .ok (i, rest)) :
    i.wf = true := by
  have hwf : ∀ {f : Form}, f.wf = true → f.instr.wf = true := fun hf => by rwa [Instr.wf, form_instr]
  match e, bs, hr with
  | .one f, bs, hr => cases hr; exact hwf h.2
  | .two f, b :: bs, hr => cases hr; exact hwf (h b).2
  | .three f, lo :: hi :: bs, hr => cases hr; exact hwf (h (hiLo hi lo)).2

/-- The bytes an entry reads are the operands of the instruction's encoding. -/
theorem Entry.EncodedBy.read_bytes {e : Entry} {op : Byte} {bs rest : List Byte} {i : Instr} (h : e.EncodedBy op)
    (hr : e.read bs = .ok (i, rest)) : op :: bs = encode i ++ rest := by
  match e, bs, hr with
  | .one f, bs, hr => cases hr; rw [show encode f.instr = [op] from h]; rfl
  | .two f, b :: bs, hr => cases hr; rw [show encode (f b).instr = [op, b] from h b]; rfl
  | .three f, lo :: hi :: bs, hr =>
    cases hr
    have hw := h (hiLo hi lo)
    rw [lowByte_hiLo, highByte_hiLo] at hw
    rw [hw]
    rfl

/-- Two more bytes are enough for every entry. -/
theorem Entry.read_total (e : Entry) (b1 b2 : Byte) (bs : List Byte) :
    ∃ i rest, e.read (b1 :: b2 :: bs) = .ok (i, rest) := by
  cases e <;> exact ⟨_, _, rfl⟩

/-- Settles O25, by the entry of the first byte. -/
theorem encodeOfDecode : Obligations.EncodeOfDecode := by
  unfold Obligations.EncodeOfDecode
  intro bs rest i h
  cases bs with
  | nil => cases h
  | cons op bs => exact ⟨(decodeFirst_ok op).read_wf h, (decodeFirst_encoded op).read_bytes h⟩

/-! ## From an instruction to its bytes and back -/

/-- Every instruction is the instruction of its form. -/
@[simp] theorem instr_form (i : Instr) : i.form.instr = i := by
  cases i <;> rfl

/-- An instruction is one to three bytes long (R120). -/
theorem Instr.length_bounds (i : Instr) : 1 ≤ i.length ∧ i.length ≤ 3 := by
  rw [← instr_form i, instr_length]
  cases i.form <;> simp [Form.length]

/-- A 16-bit operand is read back from its two bytes, low byte first (R124). -/
theorem decode_word {op : Byte} {f : Word → Form} (h : decodeFirst op = .three f) (w : Word) (rest : List Byte) :
    decode ([op, lowByte w, highByte w] ++ rest) = .ok ((f w).instr, rest) := by
  simp [decode, h, Entry.read]

/-- The encoding of a well-formed form decodes to it, by evaluation at every value of its register, condition and bit
operands, whatever its immediate one. -/
theorem decode_encode_instr {f : Form} (hf : f.wf = true) (rest : List Byte) :
    decode (encode f.instr ++ rest) = .ok (f.instr, rest) := by
  cases f with
  | ldRegReg x y => cases x <;> cases y <;> rfl
  | aluReg x y => cases x <;> cases y <;> rfl
  | shiftReg x y => cases x <;> cases y <;> rfl
  | ldRegImm x | ldRegHL x | ldHLReg x | push x | pop x | aluHL x | aluImm x | incReg x | decReg x
  | addHL x | incPair x | decPair x | shiftHL x | jrCond x | retCond x => cases x <;> rfl
  | bitReg k r | resReg k r | setReg k r => cases r <;> fin_cases k <;> rfl
  | bitHL k | resHL k | setHL k | rst k => fin_cases k <;> rfl
  | ldAAbs w | ldAbsA w | ldAbsSP w | jp w | call w => exact decode_word rfl w rest
  | ldPairImm x w | jpCond x w | callCond x w => cases x <;> exact decode_word rfl w rest
  | undefined code =>
    have hcode : code ∈ undefinedOpcodes := List.contains_iff_mem.1 hf
    unfold undefinedOpcodes at hcode
    fin_cases hcode <;> rfl
  | _ => rfl

/-- Settles O24, by the form of the instruction. -/
theorem decodeOfEncode : Obligations.DecodeOfEncode := by
  unfold Obligations.DecodeOfEncode
  intro i rest hi
  simpa using decode_encode_instr hi rest

/-- Settles O26: the entry of the first byte reads, what it reads is the encoding (O25), and an undefined opcode is read
back from its own (O24). -/
theorem decoderTotal : Obligations.DecoderTotal := by
  unfold Obligations.DecoderTotal
  refine ⟨fun op b1 b2 bs => ?_, fun op bs rest i h => ?_⟩
  · obtain ⟨i, rest, hread⟩ := (decodeFirst op).read_total b1 b2 bs
    have hbytes := (decodeFirst_encoded op).read_bytes hread
    have hrest : (op :: b1 :: b2 :: bs).drop i.length = rest := by rw [hbytes]; exact List.drop_left
    exact ⟨i, hrest.symm ▸ hread, i.length_bounds⟩
  · obtain ⟨hwf, hbytes⟩ := encodeOfDecode _ _ _ h
    have hcode : ∀ code, i = .undefined code → code = op ∧ rest = bs := by
      rintro code rfl
      cases hbytes
      exact ⟨rfl, rfl⟩
    refine ⟨⟨?_, fun hop => ?_⟩, hcode⟩
    · rintro ⟨code, rfl⟩
      obtain ⟨rfl, -⟩ := hcode code rfl
      exact List.contains_iff_mem.1 hwf
    · have hread := decodeOfEncode (.undefined op) bs (List.contains_iff_mem.2 hop)
      cases h.symm.trans hread
      exact ⟨op, rfl⟩

/-- Settles O23, by evaluation at each word. -/
theorem decodeWords : Obligations.DecodeWords := by
  unfold Obligations.DecodeWords
  exact ⟨rfl, rfl, rfl, rfl, rfl, rfl, rfl, rfl, rfl, rfl, rfl, rfl, rfl⟩

end Sys2Proof
end

section
/-! PROOFS. The 8-bit loads (O1 to O4). That a form runs as its rule says is two facts (`runs_of_run`): its encoding,
and its operation, which every instruction's meaning is (`exec_eq`). -/

namespace Sys2Proof.Machine

/-- A form runs with its encoding to the state its operation gives. -/
theorem runs_of_run {f : Form} {bytes : List Byte} {effect : State → State} (hbytes : encode f.instr = bytes)
    (hrun : ∀ s, f.run s = effect s) : Rule.Runs f bytes effect :=
  ⟨hbytes, fun s => by rw [exec_eq, form_instr, hrun]⟩

/-! ## The encodings with a register field (R121, R123) -/

theorem encode_ldRegReg (dst src : Reg8) :
    encode (Form.ldRegReg dst src).instr = [Rule.op (0x40 + 8 * Rule.reg dst + Rule.reg src)] := by
  cases dst <;> cases src <;> rfl

theorem encode_ldRegImm (dst : Reg8) (n : Byte) :
    encode (Form.ldRegImm dst n).instr = [Rule.op (0x06 + 8 * Rule.reg dst), n] := by
  cases dst <;> rfl

theorem encode_ldRegHL (dst : Reg8) : encode (Form.ldRegHL dst).instr = [Rule.op (0x46 + 8 * Rule.reg dst)] := by
  cases dst <;> rfl

theorem encode_ldHLReg (src : Reg8) : encode (Form.ldHLReg src).instr = [Rule.op (0x70 + Rule.reg src)] := by
  cases src <;> rfl

/-! ## The statements -/

/-- Settles O1: both operations are the one write to the register. -/
theorem loadRegister : Obligations.LoadRegister := by
  unfold Obligations.LoadRegister
  intro dst src n
  exact ⟨runs_of_run (encode_ldRegReg dst src) fun _ => rfl, runs_of_run (encode_ldRegImm dst n) fun _ => rfl⟩

/-- Settles O2: every load is `loadFrom` at the address its old registers or its operand give. -/
theorem loadFromMemory : Obligations.LoadFromMemory := by
  unfold Obligations.LoadFromMemory
  intro dst addr n
  refine ⟨runs_of_run (encode_ldRegHL dst) fun _ => rfl, ?_, ?_, ?_, ?_, ?_⟩ <;> exact runs_of_run rfl fun _ => rfl

/-- Settles O3: every store is `writeByte` at the address its registers or its operand give. -/
theorem storeToMemory : Obligations.StoreToMemory := by
  unfold Obligations.StoreToMemory
  intro src addr n
  refine ⟨runs_of_run (encode_ldHLReg src) fun _ => rfl, ?_, ?_, ?_, ?_, ?_, ?_⟩ <;>
    exact runs_of_run rfl fun _ => rfl

/-- Settles O4: the transfer leaves H and L alone, so HL moves on from its old value. -/
theorem loadAutoincrement : Obligations.LoadAutoincrement := by
  unfold Obligations.LoadAutoincrement
  refine ⟨?_, ?_, ?_, ?_⟩ <;> exact runs_of_run rfl fun _ => rfl

end Sys2Proof.Machine
end

section
/-! PROOFS. The 16-bit loads and the stack (O5, O6), and what is pushed is popped (O48). -/

namespace Sys2Proof.Machine

/-! ## The encodings with a pair field (R121, R123) -/

theorem encode_ldPairImm (dst : Pair) (nn : Word) :
    encode (Form.ldPairImm dst nn).instr = [Rule.op (0x01 + 16 * Rule.pair dst), lowByte nn, highByte nn] := by
  cases dst <;> rfl

theorem encode_push (rr : StkPair) : encode (Form.push rr).instr = [Rule.op (0xC5 + 16 * Rule.stk rr)] := by
  cases rr <;> rfl

theorem encode_pop (rr : StkPair) : encode (Form.pop rr).instr = [Rule.op (0xC1 + 16 * Rule.stk rr)] := by
  cases rr <;> rfl

/-- Settles O5: every operation is its rule's, with `sext8` the sign extension and `addSpH` and `addSpC` the carries out
of the low nibble and the low byte. -/
theorem loadWord : Obligations.LoadWord := by
  unfold Obligations.LoadWord
  intro dst nn addr e
  refine ⟨runs_of_run (encode_ldPairImm dst nn) fun _ => rfl, ?_, ?_, ?_⟩ <;> exact runs_of_run rfl fun _ => rfl

/-- Settles O6, by the pair: the one pushed, and the one the popped bytes are written to. -/
theorem pushAndPop : Obligations.PushAndPop := by
  unfold Obligations.PushAndPop
  intro rr
  refine ⟨runs_of_run (encode_push rr) fun _ => ?_, runs_of_run (encode_pop rr) fun _ => ?_⟩ <;> cases rr <;> rfl

/-! ## What is pushed is popped -/

/-- The instruction of a form completes in the state the form's operation gives. -/
theorem exec_form_instr (f : Form) (s : State) : exec f.instr s = .next (f.run s) := by
  rw [exec_eq, form_instr]

/-- A stack pair written back with its own value changes nothing, where F's low nibble is zero (R22, R25). -/
theorem Cpu.setStkPair_stkPair_self (c : Cpu) (q : StkPair) (hf : c.f &&& 0x0F#8 = 0#8) :
    c.setStkPair q (c.stkPair q) = c := by
  cases q with
  | bc | de | hl => simp [Cpu.setStkPair, Cpu.setHL, Cpu.stkPair, Cpu.bc, Cpu.de, Cpu.hl]
  | af => simp [Cpu.setStkPair, Cpu.stkPair, maskFlags_of_low hf]

/-- With the stack in WRAM or HRAM, `Pop16` after `Push16` gives the value pushed, whatever else happened that left the
memory and SP alone: the two bytes below SP are different bytes of the internal memories (R18). -/
theorem popValue_of_push16_plainRam {v : Word} {s t : State} (hwf : Memory.wf s.units.bus.mem = true)
    (h1 : Rule.plainRam (s.cpu.sp - 1#16)) (h2 : Rule.plainRam (s.cpu.sp - 2#16))
    (hsp : t.cpu.sp = (s.push16 v).cpu.sp) (hm : t.units.bus.mem = (s.push16 v).units.bus.mem) : t.popValue = v := by
  have hne : (s.cpu.sp - 1#16).toNat ≠ (s.cpu.sp - 2#16).toNat := by bv_omega
  have own : ∀ {w : Word}, Rule.plainRam w → ReachesRam w.toNat w.toNat := fun h => reachesRam_own_or_echo h (.inl rfl)
  exact popValue_of_push16 v s t hwf (own h1) (own h2) hne hsp hm

/-- `PUSH rr`, then `POP rr` (R195 to R197). -/
theorem opPop_opPush_cpu (rr : StkPair) {s : State} (hwf : Memory.wf s.units.bus.mem = true)
    (h1 : Rule.plainRam (s.cpu.sp - 1#16)) (h2 : Rule.plainRam (s.cpu.sp - 2#16)) (hf : s.cpu.f &&& 0x0F#8 = 0#8) :
    (opPop rr (opPush rr s)).cpu = s.cpu := by
  have hv : (opPush rr s).popValue = s.cpu.stkPair rr :=
    popValue_of_push16_plainRam (s := s.idle) (by rwa [idle_mem]) h1 h2 rfl rfl
  have hsp : (opPush rr s).pop16.cpu = s.cpu := by simp [opPush]
  rw [opPop, State.mapCpu_cpu, hv, hsp, Cpu.setStkPair_stkPair_self _ _ hf]

/-- `CALL`, then `RET` (R296, R298). -/
theorem opRet_opCall_cpu (addr : Word) {s : State} (hwf : Memory.wf s.units.bus.mem = true)
    (h1 : Rule.plainRam (s.cpu.sp - 1#16)) (h2 : Rule.plainRam (s.cpu.sp - 2#16)) :
    (opRet (opCall addr s)).cpu = s.cpu := by
  have hv : (opCall addr s).popValue = s.cpu.pc :=
    popValue_of_push16_plainRam (s := s.idle) (by rwa [idle_mem]) h1 h2 rfl (by rw [opCall, callTo_units])
  rw [opRet, returnFrom_cpu, hv, opCall, callTo_cpu, BitVec.sub_add_cancel]

/-- Settles O48, by the registers after `PUSH` and `POP` and after `CALL` and `RET`. -/
theorem stackRoundTrip : Obligations.StackRoundTrip := by
  unfold Obligations.StackRoundTrip
  intro s hwf h1 h2 hf
  refine ⟨fun rr => ?_, fun addr => ?_⟩
  · exact ⟨_, _, exec_form_instr (.push rr) s, exec_form_instr (.pop rr) _, opPop_opPush_cpu rr hwf h1 h2 hf⟩
  · have hpc : (opCall addr s).cpu.pc = addr := by rw [opCall, callTo_cpu]
    exact ⟨_, _, exec_form_instr (.call addr) s, hpc, exec_form_instr .ret _, opRet_opCall_cpu addr hwf h1 h2⟩

end Sys2Proof.Machine
end

section
/-! PROOFS. The 8-bit arithmetic functions: `add8` and `sub8` on numbers (O10), and DAA after an addition of packed
decimals (O60). -/

namespace Sys2Proof.Machine

/-! ## `add8` and `sub8` on numbers (R212) -/

theorem bitNat_le_one (b : Bool) : bitNat b ≤ 1 := by
  cases b <;> decide

section
variable (a x : Byte) (cin : Bool)

theorem add8_value_toNat : (add8 a x cin).value.toNat = (a.toNat + x.toNat + bitNat cin) % 256 :=
  BitVec.toNat_ofNat _ _

theorem add8_z_iff : (add8 a x cin).z = true ↔ (a.toNat + x.toNat + bitNat cin) % 256 = 0 := by
  have h : (add8 a x cin).z = true ↔ (add8 a x cin).value = 0#8 := decide_eq_true_iff
  rw [h, ← BitVec.toNat_inj, add8_value_toNat]
  rfl

theorem add8_h_iff : (add8 a x cin).h = true ↔ a.toNat % 16 + x.toNat % 16 + bitNat cin > 0xF := decide_eq_true_iff

theorem add8_c_iff : (add8 a x cin).c = true ↔ a.toNat + x.toNat + bitNat cin > 0xFF := decide_eq_true_iff

theorem sub8_value_toNat :
    ((sub8 a x cin).value.toNat : Int) = ((a.toNat : Int) - x.toNat - bitNat cin) % 256 := by
  have h : (sub8 a x cin).value.toNat = (((a.toNat : Int) - x.toNat - bitNat cin) % 256).toNat := BitVec.toNat_ofInt _
  omega

theorem sub8_z_iff : (sub8 a x cin).z = true ↔ ((a.toNat : Int) - x.toNat - bitNat cin) % 256 = 0 := by
  have h : (sub8 a x cin).z = true ↔ (sub8 a x cin).value = 0#8 := decide_eq_true_iff
  rw [h, ← BitVec.toNat_inj, ← sub8_value_toNat, Int.natCast_eq_zero]
  rfl

theorem sub8_h_iff : (sub8 a x cin).h = true ↔ a.toNat % 16 < x.toNat % 16 + bitNat cin := decide_eq_true_iff

theorem sub8_c_iff : (sub8 a x cin).c = true ↔ (a.toNat : Int) - x.toNat - bitNat cin < 0 := decide_eq_true_iff

end

/-- Settles O10, field by field; the statement's carry is an integer. -/
theorem addSubFunctions : Obligations.AddSubFunctions := by
  unfold Obligations.AddSubFunctions
  intro a x cin k d
  have hk : k = bitNat cin := by cases cin <;> rfl
  have hadd := add8_value_toNat a x cin
  have hd : d = (a.toNat : Int) - x.toNat - bitNat cin := by rw [← hk]
  refine ⟨?_, (add8_z_iff a x cin).trans ?_, rfl, (add8_h_iff a x cin).trans ?_, (add8_c_iff a x cin).trans ?_,
    hd ▸ sub8_value_toNat a x cin, hd ▸ sub8_z_iff a x cin, rfl, (sub8_h_iff a x cin).trans ?_,
    hd ▸ sub8_c_iff a x cin⟩ <;> rw [hk] <;> omega

/-! ## DAA after an addition (R241) -/

/-- After an addition DAA corrects the low digit where its nibble carried or is no decimal digit, and the high one where
the byte carried or is above 0x99. -/
theorem daa8_add_value_toNat (a : Byte) (h c : Bool) :
    (daa8 a false h c).value.toNat = (a.toNat + (if h = true ∨ a.toNat % 16 > 9 then 0x06 else 0) +
      (if c = true ∨ a.toNat > 0x99 then 0x60 else 0)) % 256 := by
  have hadj : ∀ low high : Bool, ((if low then 0x06#8 else 0x00#8) ||| (if high then 0x60#8 else 0x00#8)).toNat =
      (if low then 0x06 else 0) + (if high then 0x60 else 0) := by decide
  have hv : (daa8 a false h c).value = a + ((if h || decide (a.toNat % 16 > 9) then 0x06#8 else 0x00#8) |||
      (if c || decide (a.toNat > 0x99) then 0x60#8 else 0x00#8)) := rfl
  rw [hv, BitVec.toNat_add, hadj, ← Nat.add_assoc]
  simp only [Bool.or_eq_true, decide_eq_true_eq]

theorem daa8_add_c_iff (a : Byte) (h c : Bool) : (daa8 a false h c).c = true ↔ c = true ∨ a.toNat > 0x99 :=
  Bool.or_eq_true_iff.trans (or_congr_right decide_eq_true_iff)

/-- The packed decimal byte of the last two digits of a number (R241). -/
def packedDecimal (n : Nat) : Byte := BitVec.ofNat 8 (16 * (n / 10 % 10) + n % 10)

/-- A number below 100 has two decimal digits. -/
theorem exists_two_digits {n : Nat} (hn : n < 100) : ∃ tens units, tens < 10 ∧ units < 10 ∧ n = 10 * tens + units :=
  ⟨n / 10, n % 10, by omega, by omega, by omega⟩

theorem packedDecimal_toNat {t u : Nat} (ht : t < 10) (hu : u < 10) :
    (packedDecimal (10 * t + u)).toNat = 16 * t + u := by
  have htens : (10 * t + u) / 10 % 10 = t := by omega
  have hunits : (10 * t + u) % 10 = u := by omega
  rw [packedDecimal, htens, hunits, BitVec.toNat_ofNat]
  omega

section
variable {t u t' u' : Nat} (ht : t < 10) (hu : u < 10) (ht' : t' < 10) (hu' : u' < 10) (cin : Bool)
include ht hu ht' hu'

/-- The binary sum of two packed decimals. -/
theorem add8_packedDecimal_toNat : (add8 (packedDecimal (10 * t + u)) (packedDecimal (10 * t' + u')) cin).value.toNat =
    (16 * (t + t') + (u + u' + bitNat cin)) % 256 := by
  rw [add8_value_toNat, packedDecimal_toNat ht hu, packedDecimal_toNat ht' hu']
  omega

/-- The low digit is corrected exactly where the units carry: past 15 the nibble carried, from 10 to 15 it is no decimal
digit. -/
theorem add8_packedDecimal_low_iff {r : Res8}
    (hr : add8 (packedDecimal (10 * t + u)) (packedDecimal (10 * t' + u')) cin = r) :
    r.h = true ∨ r.value.toNat % 16 > 9 ↔ u + u' + bitNat cin > 9 := by
  have hcin := bitNat_le_one cin
  rw [← hr, add8_h_iff, add8_packedDecimal_toNat ht hu ht' hu', packedDecimal_toNat ht hu, packedDecimal_toNat ht' hu']
  omega

/-- The high digit is corrected exactly where the decimal sum is above 99. -/
theorem add8_packedDecimal_high_iff {r : Res8}
    (hr : add8 (packedDecimal (10 * t + u)) (packedDecimal (10 * t' + u')) cin = r) :
    r.c = true ∨ r.value.toNat > 0x99 ↔ 100 ≤ 10 * t + u + (10 * t' + u') + bitNat cin := by
  have hcin := bitNat_le_one cin
  rw [← hr, add8_c_iff, add8_packedDecimal_toNat ht hu ht' hu', packedDecimal_toNat ht hu, packedDecimal_toNat ht' hu']
  omega

/-- With `w` and the carry `d` the units of the decimal sum, `v` and the carry `q` its tens, DAA adds 6 for `d` and 0x60
for `q`: the binary sum is then 16 * v + w and, for `q`, 256. -/
theorem daa8_add8_packedDecimal {r : Res8}
    (hr : add8 (packedDecimal (10 * t + u)) (packedDecimal (10 * t' + u')) cin = r) :
    (daa8 r.value false r.h r.c).value = packedDecimal ((10 * t + u + (10 * t' + u') + bitNat cin) % 100) := by
  have hcin := bitNat_le_one cin
  obtain ⟨d, w, -, hw, hunits⟩ := exists_two_digits (n := u + u' + bitNat cin) (by omega)
  obtain ⟨q, v, -, hv, htens⟩ := exists_two_digits (n := t + t' + d) (by omega)
  have hlow : (if u + u' + bitNat cin > 9 then 0x06 else 0) = 0x06 * d := by split <;> omega
  have hhigh : (if 100 ≤ 10 * t + u + (10 * t' + u') + bitNat cin then 0x60 else 0) = 0x60 * q := by split <;> omega
  have hcorrected : 16 * (t + t') + (u + u' + bitNat cin) + (0x06 * d + 0x60 * q) = 16 * v + w + 256 * q := by omega
  have hsum : (10 * t + u + (10 * t' + u') + bitNat cin) % 100 = 10 * v + w := by omega
  apply BitVec.eq_of_toNat_eq
  rw [daa8_add_value_toNat, hsum, packedDecimal_toNat hv hw]
  simp only [add8_packedDecimal_low_iff ht hu ht' hu' cin hr, add8_packedDecimal_high_iff ht hu ht' hu' cin hr]
  rw [← hr, add8_packedDecimal_toNat ht hu ht' hu', hlow, hhigh, Nat.add_assoc, Nat.mod_add_mod, hcorrected]
  omega

end

/-- Settles O60: the corrected value, and the carry of the corrected high digit. -/
theorem decimalAddition : Obligations.DecimalAddition := by
  unfold Obligations.DecimalAddition
  intro x y cin hx hy bcd sum r
  obtain ⟨t, u, ht, hu, rfl⟩ := exists_two_digits hx
  obtain ⟨t', u', ht', hu', rfl⟩ := exists_two_digits hy
  exact ⟨daa8_add8_packedDecimal ht hu ht' hu' cin rfl,
    (daa8_add_c_iff _ _ _).trans (add8_packedDecimal_high_iff ht hu ht' hu' cin rfl)⟩

end Sys2Proof.Machine
end

section
/-! PROOFS. The 8-bit arithmetic and logic instructions: the ALU operations on their three operands (O7, O8, O9), the
increments and decrements (O11), DAA, CPL, SCF and CCF (O12). -/

namespace Sys2Proof.Machine

/-! ## The encodings with an operation or a register field (R121, R123) -/

theorem encode_aluReg (o : AluOp) (r : Reg8) :
    encode (Form.aluReg o r).instr = [Rule.op (0x80 + 8 * Rule.alu o + Rule.reg r)] := by
  cases o <;> cases r <;> rfl

theorem encode_aluHL (o : AluOp) : encode (Form.aluHL o).instr = [Rule.op (0x86 + 8 * Rule.alu o)] := by
  cases o <;> rfl

theorem encode_aluImm (o : AluOp) (n : Byte) :
    encode (Form.aluImm o n).instr = [Rule.op (0xC6 + 8 * Rule.alu o), n] := by
  cases o <;> rfl

theorem encode_incReg (r : Reg8) : encode (Form.incReg r).instr = [Rule.op (0x04 + 8 * Rule.reg r)] := by
  cases r <;> rfl

theorem encode_decReg (r : Reg8) : encode (Form.decReg r).instr = [Rule.op (0x05 + 8 * Rule.reg r)] := by
  cases r <;> rfl

/-! ## The ALU operations -/

/-- The ALU gives the rule's A and flags; CP writes A back to itself (R213 to R236). -/
theorem Cpu.alu_eq_aluResult (o : AluOp) (x : Byte) (c : Cpu) : c.alu o x = Rule.aluResult o x c := by
  cases o <;> rfl

/-- Registers changed in the same way make the same state. -/
theorem State.mapCpu_congr {g g' : Cpu → Cpu} (s : State) (h : g s.cpu = g' s.cpu) : s.mapCpu g = s.mapCpu g' :=
  congrArg (fun c => { s with cpu := c }) h

/-- Settles O7, by the ALU on the register's value. -/
theorem aluOnRegister : Obligations.AluOnRegister := by
  unfold Obligations.AluOnRegister
  intro o r
  exact runs_of_run (encode_aluReg o r) fun s => s.mapCpu_congr (s.cpu.alu_eq_aluResult o (s.cpu.reg r))

/-- Settles O8, by the ALU on the byte read. -/
theorem aluOnMemory : Obligations.AluOnMemory := by
  unfold Obligations.AluOnMemory
  intro o
  exact runs_of_run (encode_aluHL o) fun s => s.idle.mapCpu_congr (s.cpu.alu_eq_aluResult o (s.readByte s.cpu.hl))

/-- Settles O9, by the ALU on the operand. -/
theorem aluOnImmediate : Obligations.AluOnImmediate := by
  unfold Obligations.AluOnImmediate
  intro o n
  exact runs_of_run (encode_aluImm o n) fun s => s.mapCpu_congr (s.cpu.alu_eq_aluResult o n)

/-! ## INC and DEC -/

@[simp] theorem Cpu.setReg_flagC (c : Cpu) (r : Reg8) (v : Byte) : (c.setReg r v).flagC = c.flagC := by
  rw [Cpu.flagC, Cpu.setReg_f, Cpu.flagC]

/-- Settles O11: the carry that INC and DEC write back is the one before them, since no register write reaches F. -/
theorem incrementDecrement : Obligations.IncrementDecrement := by
  unfold Obligations.IncrementDecrement
  intro incFlags decFlags r
  refine ⟨runs_of_run (encode_incReg r) fun s => ?_, runs_of_run (encode_decReg r) fun s => ?_,
    runs_of_run rfl fun _ => rfl, runs_of_run rfl fun _ => rfl⟩
  · simp only [incFlags, Cpu.setReg_flagC]
    rfl
  · simp only [decFlags, Cpu.setReg_flagC]
    rfl

/-! ## DAA, CPL, SCF and CCF -/

/-- DAA keeps N (R241). -/
theorem daa8_n (a : Byte) (n h c : Bool) : (daa8 a n h c).n = n := by
  cases n <;> rfl

/-- DAA clears H (R241). -/
theorem daa8_h (a : Byte) (n h c : Bool) : (daa8 a n h c).h = false := by
  cases n <;> rfl

/-- Settles O12, DAA by its two branches. -/
theorem adjustComplementCarry : Obligations.AdjustComplementCarry := by
  unfold Obligations.AdjustComplementCarry
  refine ⟨runs_of_run rfl fun s => ?_, runs_of_run rfl fun _ => rfl,
    runs_of_run rfl fun _ => rfl, runs_of_run rfl fun _ => rfl⟩
  rw [Form.run, opDaa]
  refine s.mapCpu_congr ?_
  dsimp only [daa8]
  cases s.cpu.flagN <;> rfl

end Sys2Proof.Machine
end

section
/-! PROOFS. The flag table (O30): an instruction leaves F alone, where its row is four dashes, or writes all four flags,
each as its row says. -/

namespace Sys2Proof.Machine

/-- What the flag table says of the registers before and after an instruction with row `row` (R211). -/
structure FlagsObey (row : FlagRow) (before after : Cpu) : Prop where
  z : row.z.allows before.flagZ after.flagZ
  n : row.n.allows before.flagN after.flagN
  h : row.h.allows before.flagH after.flagH
  c : row.c.allows before.flagC after.flagC
  f : if row = ⟨.kept, .kept, .kept, .kept⟩ then after.f = before.f else after.f &&& 0x0F#8 = 0#8

namespace FlagsObey
variable {before after : Cpu}

/-- An instruction that leaves F alone obeys a row of four dashes. -/
theorem of_f_eq (hf : after.f = before.f) : FlagsObey ⟨.kept, .kept, .kept, .kept⟩ before after where
  z := congrArg (fun f : Byte => f.getLsbD 7) hf
  n := congrArg (fun f : Byte => f.getLsbD 6) hf
  h := congrArg (fun f : Byte => f.getLsbD 5) hf
  c := congrArg (fun f : Byte => f.getLsbD 4) hf
  f := hf

/-- Four flags written obey any other row that allows each of them. -/
theorem setFlags {row : FlagRow} {z n h c : Bool} (hrow : row ≠ ⟨.kept, .kept, .kept, .kept⟩)
    (hz : row.z.allows before.flagZ z) (hn : row.n.allows before.flagN n) (hh : row.h.allows before.flagH h)
    (hc : row.c.allows before.flagC c) : FlagsObey row before (after.setFlags z n h c) where
  z := by rwa [Cpu.setFlags_flagZ]
  n := by rwa [Cpu.setFlags_flagN]
  h := by rwa [Cpu.setFlags_flagH]
  c := by rwa [Cpu.setFlags_flagC]
  f := by rw [if_neg hrow, Cpu.setFlags_f, packFlags_low]

/-- The two-operand ALU operations: their N, and H and C of the logic operations, are constants. -/
theorem alu (op : AluOp) (x : Byte) (c : Cpu) : FlagsObey op.flagRow c (c.alu op x) := by
  cases op with
  | add | adc | sub | sbc | cp => exact setFlags nofun trivial rfl trivial trivial
  | and | xor | or => exact setFlags nofun trivial rfl rfl rfl

/-- The CB-page rotates and shifts: N and H are 0, and SWAP carries nothing out. -/
theorem shift (op : ShiftOp) (v : Byte) (cin : Bool) :
    FlagsObey op.flagRow before (after.setResFlags (shiftRes op v cin)) := by
  cases op with
  | swap => exact setFlags nofun trivial rfl rfl rfl
  | rlc | rrc | rl | rr | sla | sra | srl => exact setFlags nofun trivial rfl rfl trivial

end FlagsObey

/-- The flags after every instruction obey its row. -/
theorem run_flagsObey (f : Form) (s : State) : FlagsObey f.flagRow s.cpu (f.run s).cpu := by
  cases f with
  | aluReg op | aluHL op | aluImm op => exact .alu op _ s.cpu
  | shiftReg op | shiftHL op => exact .shift op _ _
  | incReg | incHL | decReg | decHL => exact .setFlags nofun trivial rfl trivial rfl
  | daa => exact .setFlags nofun trivial (daa8_n _ _ _ _) (daa8_h _ _ _ _) trivial
  | cpl | scf => exact .setFlags nofun rfl rfl rfl rfl
  | addHL | addSPe | ldHLSPe => exact .setFlags nofun rfl rfl trivial trivial
  | ccf | rlca | rla | rrca | rra => exact .setFlags nofun rfl rfl rfl trivial
  | bitReg | bitHL => exact .setFlags nofun trivial rfl rfl rfl
  | pop dst =>
    cases dst with
    | af => exact ⟨trivial, trivial, trivial, trivial, maskFlags_low _⟩
    | bc | de | hl => exact .of_f_eq rfl
  | jpCond cc | jrCond cc | callCond cc | retCond cc =>
    refine .of_f_eq ?_
    simp only [Form.run, opJpCond, opJrCond, opCallCond, opRetCond]
    split <;> rfl
  | ei =>
    refine .of_f_eq ?_
    simp only [Form.run, opEi]
    split <;> rfl
  | ldRegReg r | ldRegImm r | ldRegHL r | resReg _ r | setReg _ r => exact .of_f_eq (Cpu.setReg_f _ r _)
  | ldPairImm p | incPair p | decPair p => exact .of_f_eq (Cpu.setPair_f _ p _)
  | _ => exact .of_f_eq rfl

/-- Settles O30: the table by the row of every instruction; a service writes SP, PC, IME, `imePending` and the mode. -/
theorem flagTable : Obligations.FlagTable := by
  unfold Obligations.FlagTable
  refine ⟨fun f s t ht => ?_, fun k s => by rw [serviceInterrupt_cpu]⟩
  rw [exec_form_instr] at ht
  cases ht
  obtain ⟨hz, hn, hh, hc, hf⟩ := run_flagsObey f s
  exact ⟨hz, hn, hh, hc, hf⟩

end Sys2Proof.Machine
end

section
/-! PROOFS. The 16-bit arithmetic instructions (O13). -/

namespace Sys2Proof.Machine

/-! ## The encodings with a pair field (R121, R123) -/

theorem encode_addHL (rr : Pair) : encode (Form.addHL rr).instr = [Rule.op (0x09 + 16 * Rule.pair rr)] := by
  cases rr <;> rfl

theorem encode_incPair (rr : Pair) : encode (Form.incPair rr).instr = [Rule.op (0x03 + 16 * Rule.pair rr)] := by
  cases rr <;> rfl

theorem encode_decPair (rr : Pair) : encode (Form.decPair rr).instr = [Rule.op (0x0B + 16 * Rule.pair rr)] := by
  cases rr <;> rfl

/-- Settles O13: every operation is its rule's, with `add16H` and `add16C` the carries out of bits 11 and 15, `sext8` the
sign extension, and `addSpH` and `addSpC` the carries out of the low nibble and the low byte. -/
theorem wordArithmetic : Obligations.WordArithmetic := by
  unfold Obligations.WordArithmetic
  intro rr e
  exact ⟨runs_of_run (encode_addHL rr) fun _ => rfl, runs_of_run (encode_incPair rr) fun _ => rfl,
    runs_of_run (encode_decPair rr) fun _ => rfl, runs_of_run rfl fun _ => rfl⟩

end Sys2Proof.Machine
end

section
/-! PROOFS. The rotates, shifts and bit instructions: the accumulator rotates (O14), the CB page (O15, O16, O18), and
the eight one-bit functions on numbers (O17). -/

namespace Sys2Proof.Machine

/-! ## The encodings of the CB page: an operation or a bit in field y, the operand in field z (R122, R123) -/

theorem encode_shiftReg (o : ShiftOp) (r : Reg8) :
    encode (Form.shiftReg o r).instr = [0xCB#8, Rule.op (8 * Rule.shift o + Rule.reg r)] := by
  cases o <;> cases r <;> rfl

theorem encode_shiftHL (o : ShiftOp) :
    encode (Form.shiftHL o).instr = [0xCB#8, Rule.op (8 * Rule.shift o + 6)] := by
  cases o <;> rfl

theorem encode_bitReg (b : Fin 8) (r : Reg8) :
    encode (Form.bitReg b r).instr = [0xCB#8, Rule.op (0x40 + 8 * b.val + Rule.reg r)] := by
  fin_cases b <;> cases r <;> rfl

theorem encode_bitHL (b : Fin 8) : encode (Form.bitHL b).instr = [0xCB#8, Rule.op (0x40 + 8 * b.val + 6)] := by
  fin_cases b <;> rfl

theorem encode_resReg (b : Fin 8) (r : Reg8) :
    encode (Form.resReg b r).instr = [0xCB#8, Rule.op (0x80 + 8 * b.val + Rule.reg r)] := by
  fin_cases b <;> cases r <;> rfl

theorem encode_resHL (b : Fin 8) : encode (Form.resHL b).instr = [0xCB#8, Rule.op (0x80 + 8 * b.val + 6)] := by
  fin_cases b <;> rfl

theorem encode_setReg (b : Fin 8) (r : Reg8) :
    encode (Form.setReg b r).instr = [0xCB#8, Rule.op (0xC0 + 8 * b.val + Rule.reg r)] := by
  fin_cases b <;> cases r <;> rfl

theorem encode_setHL (b : Fin 8) : encode (Form.setHL b).instr = [0xCB#8, Rule.op (0xC0 + 8 * b.val + 6)] := by
  fin_cases b <;> rfl

/-! ## The instructions -/

/-- Settles O14: every rotate is `updateReg` of A by `rotateARes`, the one-bit function with Z = 0. -/
theorem accumulatorRotates : Obligations.AccumulatorRotates := by
  unfold Obligations.AccumulatorRotates
  intro rotate
  refine ⟨?_, ?_, ?_, ?_⟩ <;> exact runs_of_run rfl fun _ => rfl

/-- Settles O15: the operation is `updateReg` by `shiftRes`, the one-bit function with its flags. -/
theorem shiftOnRegister : Obligations.ShiftOnRegister := by
  unfold Obligations.ShiftOnRegister
  intro o r
  exact runs_of_run (encode_shiftReg o r) fun _ => rfl

/-- Settles O16: the operation is `updateAtHL` by `shiftRes`. -/
theorem shiftOnMemory : Obligations.ShiftOnMemory := by
  unfold Obligations.ShiftOnMemory
  intro o
  exact runs_of_run (encode_shiftHL o) fun _ => rfl

/-- Settles O18: the operations are the rules', with `Cpu.testBit`, `clearBit` and `assertBit` for the bit's test, reset
and set. -/
theorem bitTestResetSet : Obligations.BitTestResetSet := by
  unfold Obligations.BitTestResetSet
  intro b r
  exact ⟨runs_of_run (encode_bitReg b r) fun _ => rfl, runs_of_run (encode_bitHL b) fun _ => rfl,
    runs_of_run (encode_resReg b r) fun _ => rfl, runs_of_run (encode_resHL b) fun _ => rfl,
    runs_of_run (encode_setReg b r) fun _ => rfl, runs_of_run (encode_setHL b) fun _ => rfl⟩

/-! ## The one-bit functions on numbers (R260) -/

/-- A bit as a byte. -/
theorem ofNat_bitNat (b : Bool) : BitVec.ofNat 8 (bitNat b) = (BitVec.ofBool b).setWidth 8 := by
  cases b <;> rfl

/-- A bit at the top of a byte. -/
theorem ofNat_bitNat_shl (b : Bool) : BitVec.ofNat 8 (bitNat b <<< 7) = (BitVec.ofBool b).setWidth 8 <<< 7 := by
  cases b <;> rfl

theorem bitNat_decide_eq_one {m : Nat} (h : m < 2) : bitNat (decide (m = 1)) = m := by
  have hm : m = 0 ∨ m = 1 := by omega
  rcases hm with rfl | rfl <;> rfl

/-- Bit 7 kept in its place, as SRA keeps it. -/
theorem and_bit_seven : ∀ v : Byte, v &&& 0x80#8 = (BitVec.ofBool (v.getLsbD 7)).setWidth 8 <<< 7 := by decide

section
variable (v : Byte)

theorem shl_one_eq_ofNat : v <<< 1 = BitVec.ofNat 8 (2 * v.toNat % 256) := by
  apply BitVec.eq_of_toNat_eq
  rw [BitVec.toNat_shiftLeft, Nat.shiftLeft_eq, BitVec.toNat_ofNat]
  omega

theorem shr_one_eq_ofNat : v >>> 1 = BitVec.ofNat 8 (v.toNat / 2) := by
  apply BitVec.eq_of_toNat_eq
  rw [BitVec.toNat_ushiftRight, Nat.shiftRight_eq_div_pow, BitVec.toNat_ofNat]
  omega

/-- The bit that enters on the right takes the place the shift left free. -/
theorem shl_one_or_bit (b : Bool) :
    v <<< 1 ||| (BitVec.ofBool b).setWidth 8 = BitVec.ofNat 8 (2 * v.toNat % 256 + bitNat b) := by
  have hfree : 2 * v.toNat % 256 = (v.toNat % 128) <<< 1 := by rw [Nat.shiftLeft_eq]; omega
  have hbit : bitNat b < 2 ^ 1 := Nat.lt_succ_of_le (bitNat_le_one b)
  rw [shl_one_eq_ofNat, ← ofNat_bitNat, ← BitVec.ofNat_or, hfree, Nat.shiftLeft_add_eq_or_of_lt hbit]

/-- The bit that enters on the left takes the place the shift left free. -/
theorem shr_one_or_bit (b : Bool) :
    v >>> 1 ||| (BitVec.ofBool b).setWidth 8 <<< 7 = BitVec.ofNat 8 (v.toNat / 2 + 128 * bitNat b) := by
  have hfree : v.toNat / 2 < 2 ^ 7 := by have := v.isLt; omega
  have hbit : 128 * bitNat b = bitNat b <<< 7 := by rw [Nat.shiftLeft_eq, Nat.mul_comm]
  rw [shr_one_eq_ofNat, ← ofNat_bitNat_shl, ← BitVec.ofNat_or, hbit, Nat.add_comm,
    Nat.shiftLeft_add_eq_or_of_lt hfree, Nat.or_comm]

theorem getLsbD_seven : v.getLsbD 7 = decide (v.toNat / 128 = 1) := by
  have hlt := v.isLt
  have hmod : v.toNat / 2 ^ 7 % 2 = v.toNat / 128 := by omega
  rw [BitVec.getLsbD, Nat.testBit_eq_decide_div_mod_eq, hmod]

theorem getLsbD_zero : v.getLsbD 0 = decide (v.toNat % 2 = 1) :=
  Nat.testBit_zero _

theorem bitNat_getLsbD_seven : bitNat (v.getLsbD 7) = v.toNat / 128 := by
  have hlt := v.isLt
  rw [getLsbD_seven, bitNat_decide_eq_one (by omega)]

theorem bitNat_getLsbD_zero : bitNat (v.getLsbD 0) = v.toNat % 2 := by
  rw [getLsbD_zero, bitNat_decide_eq_one (by omega)]

/-- The two nibbles change places. -/
theorem swap_nibbles :
    v.extractLsb' 0 4 ++ v.extractLsb' 4 4 = BitVec.ofNat 8 (16 * (v.toNat % 16) + v.toNat / 16) := by
  have hlt := v.isLt
  have hlow : (v.extractLsb' 0 4).toNat = v.toNat % 16 := BitVec.extractLsb'_toNat ..
  have hhigh : (v.extractLsb' 4 4).toNat = v.toNat / 16 := by
    rw [BitVec.extractLsb'_toNat, Nat.shiftRight_eq_div_pow]
    omega
  apply BitVec.eq_of_toNat_eq
  rw [BitVec.toNat_append, ← Nat.shiftLeft_add_eq_or_of_lt (BitVec.isLt _), Nat.shiftLeft_eq, hlow, hhigh,
    BitVec.toNat_ofNat]
  omega

end

/-- Settles O17, by the operation: a shift by one place with the bit that enters and the bit that leaves; SWAP by its
nibbles. -/
theorem shiftFunctions : Obligations.ShiftFunctions := by
  unfold Obligations.ShiftFunctions
  intro v cin n k top bottom
  have htop : v.getLsbD 7 = top := getLsbD_seven v
  have hbottom : v.getLsbD 0 = bottom := getLsbD_zero v
  have hrlc := shl_one_or_bit v (v.getLsbD 7)
  have hrrc := shr_one_or_bit v (v.getLsbD 0)
  have hsra := shr_one_or_bit v (v.getLsbD 7)
  rw [bitNat_getLsbD_seven] at hrlc hsra
  rw [bitNat_getLsbD_zero] at hrrc
  rw [← and_bit_seven] at hsra
  exact ⟨Prod.ext hrlc htop, Prod.ext hrrc hbottom, Prod.ext (shl_one_or_bit v cin) htop,
    Prod.ext (shr_one_or_bit v cin) hbottom, Prod.ext (shl_one_eq_ofNat v) htop, Prod.ext hsra hbottom,
    Prod.ext (swap_nibbles v) rfl, Prod.ext (shr_one_eq_ofNat v) hbottom⟩

end Sys2Proof.Machine
end

section
/-! PROOFS. The jumps (O19), the calls, returns and restarts (O20), and the interrupt handler that returns at
once (O47). -/

namespace Sys2Proof.Machine

/-! ## The encodings with a condition field or a restart number (R121, R123) -/

theorem encode_jpCond (cc : Cond) (addr : Word) :
    encode (Form.jpCond cc addr).instr = [Rule.op (0xC2 + 8 * Rule.cond cc), lowByte addr, highByte addr] := by
  cases cc <;> rfl

theorem encode_jrCond (cc : Cond) (e : Byte) :
    encode (Form.jrCond cc e).instr = [Rule.op (0x20 + 8 * Rule.cond cc), e] := by
  cases cc <;> rfl

theorem encode_callCond (cc : Cond) (addr : Word) :
    encode (Form.callCond cc addr).instr = [Rule.op (0xC4 + 8 * Rule.cond cc), lowByte addr, highByte addr] := by
  cases cc <;> rfl

theorem encode_retCond (cc : Cond) : encode (Form.retCond cc).instr = [Rule.op (0xC0 + 8 * Rule.cond cc)] := by
  cases cc <;> rfl

theorem encode_rst (y : Fin 8) : encode (Form.rst y).instr = [Rule.op (0xC7 + 8 * y.val)] := by
  fin_cases y <;> rfl

/-! ## The instructions -/

/-- Settles O19: every jump is `State.jump` to its target, then the idle cycle where one is taken; `sext8` is the sign
extension of the relative jumps. -/
theorem jumps : Obligations.Jumps := by
  unfold Obligations.Jumps
  intro cc addr e
  exact ⟨runs_of_run rfl fun _ => rfl, runs_of_run (encode_jpCond cc addr) fun _ => rfl,
    runs_of_run rfl fun _ => rfl, runs_of_run rfl fun _ => rfl, runs_of_run (encode_jrCond cc e) fun _ => rfl⟩

/-- Settles O20: calls and restarts are `State.callTo`, returns `State.returnFrom`, whose `push16` and `pop16` are the
rules' `Push16` and `Pop16` written out. -/
theorem callsAndReturns : Obligations.CallsAndReturns := by
  unfold Obligations.CallsAndReturns
  intro calls returns cc addr y
  exact ⟨runs_of_run rfl fun _ => rfl, runs_of_run (encode_callCond cc addr) fun _ => rfl,
    runs_of_run rfl fun _ => rfl, runs_of_run (encode_retCond cc) fun _ => rfl, runs_of_run rfl fun _ => rfl,
    runs_of_run (encode_rst y) fun _ => rfl⟩

/-! ## A handler that only returns -/

/-- With the stack in WRAM or HRAM, the service of an interrupt leaves the interrupted PC on the stack (R351): after the
pushes it changes no memory, and SP no more. -/
theorem popValue_serviceInterrupt (k : Nat) {s : State} (hwf : Memory.wf s.units.bus.mem = true)
    (h1 : Rule.plainRam (s.cpu.sp - 1#16)) (h2 : Rule.plainRam (s.cpu.sp - 2#16)) :
    (s.serviceInterrupt k).popValue = s.cpu.pc :=
  popValue_of_push16_plainRam (s := (s.mapCpu fun c => { c with mode := .running }).idle.idle)
    (by rwa [idle_mem, idle_mem]) h1 h2 rfl (serviceInterrupt_mem k s)

/-- The processor after a return from an interrupt: PC is popped and IME is 1 at once (R300, R354). -/
theorem opReti_cpu (s : State) :
    (opReti s).cpu = { s.cpu with sp := s.cpu.sp + 2#16, pc := s.popValue, ime := true } := by
  rw [opReti, State.returnFromInterrupt, State.mapCpu_cpu, returnFrom_cpu]

/-- Settles O47: the service pushed PC and took 2 from SP, `RETI` pops PC and gives the 2 back, and neither writes
another register. -/
theorem serviceThenReti : Obligations.ServiceThenReti := by
  unfold Obligations.ServiceThenReti
  intro s k hwf h1 h2
  refine ⟨_, exec_form_instr .reti _, ?_⟩
  show (opReti (s.serviceInterrupt k)).cpu = _
  rw [opReti_cpu, popValue_serviceInterrupt k hwf h1 h2, serviceInterrupt_cpu, BitVec.sub_add_cancel]

end Sys2Proof.Machine
end

section
/-! PROOFS. Processor control: NOP, HALT, STOP, DI and the undefined opcodes (O21, O22), the Halted and Stopped processor
(O49), and EI with its delay (O50). -/

namespace Sys2Proof.Machine

/-! ## The end of a `Step()` (R321) -/

/-- After an undefined opcode the end of a step changes nothing. -/
theorem finishStep_of_unknownOpcode {p : Bool} {s : State} {code : Byte}
    (h : s.outside.outcome = some (.unknownOpcode code)) : s.finishStep p = s := by
  rw [State.finishStep, h]

/-- After any other instruction a pending EI may mature, and the mode gives the outcome. -/
theorem finishStep_of_no_unknownOpcode {p : Bool} {s : State}
    (h : ∀ code, s.outside.outcome ≠ some (.unknownOpcode code)) :
    (s.finishStep p).cpu =
        (if p = true ∧ s.cpu.imePending = true then { s.cpu with ime := true, imePending := false } else s.cpu) ∧
      (s.finishStep p).outside.outcome = some (if s.cpu.mode = .running then .continued else .halted) := by
  unfold State.finishStep
  split
  · exact absurd ‹_› (h _)
  · by_cases hp : p = true ∧ s.cpu.imePending = true
    · simp [hp]
    · simp only [Bool.and_eq_true, if_neg hp]
      exact ⟨rfl, rfl⟩

/-- Nothing matures in a step that began with no EI pending. -/
theorem finishStep_false_cpu (s : State) : (s.finishStep false).cpu = s.cpu := by
  obtain ⟨-, -, hcpu | ⟨hfalse, -⟩⟩ := finishStep_spec false s
  · exact hcpu
  · cases hfalse

/-! ## The instructions -/

/-- Settles O21: NOP, HALT, STOP and DI are their operations, and the end of a step reports `Halted` in the mode that HALT
and STOP leave. -/
theorem processorControl : Obligations.ProcessorControl := by
  unfold Obligations.ProcessorControl
  refine ⟨runs_of_run rfl fun _ => rfl, runs_of_run rfl fun _ => rfl, fun _ => runs_of_run rfl fun _ => rfl,
    runs_of_run rfl fun _ => rfl, fun i pad s t p hi hs ht => ?_⟩
  rw [exec_eq] at ht
  cases ht
  have houtside : (i.form.run s).outside = s.outside := by obtain rfl | rfl := hi <;> rfl
  have hmode : (i.form.run s).cpu.mode ≠ .running := by obtain rfl | rfl := hi <;> exact RunMode.noConfusion
  obtain ⟨-, houtcome⟩ := finishStep_of_no_unknownOpcode (p := p) (s := i.form.run s) (by simp [houtside, hs])
  rw [houtcome, if_neg hmode]

/-- Settles O22: the operation of an undefined opcode is the report alone. -/
theorem undefinedOpcode : Obligations.UndefinedOpcode := by
  unfold Obligations.UndefinedOpcode
  exact fun _ _ => ⟨rfl, fun _ => rfl⟩

/-! ## Halted and Stopped (R325, R326) -/

theorem asleep_of_halted {s : State} (h : s.cpu.mode = .halted) :
    s.asleep = true ↔ pendingBits s.units.timer = 0#5 := by
  rw [State.asleep, h, decide_eq_true_iff]

theorem asleep_of_stopped {s : State} (h : s.cpu.mode = .stopped) :
    s.asleep = true ↔ ¬s.outside.latch.anyPressed = true := by
  rw [State.asleep, h, Bool.not_eq_true', Bool.not_eq_true]

theorem anyPressed_iff (l : InputLatch) : l.anyPressed = true ↔
    l.up ∨ l.down ∨ l.left ∨ l.right ∨ l.a ∨ l.b ∨ l.start ∨ l.select := by
  simp only [InputLatch.anyPressed, Bool.or_eq_true, or_assoc]

/-- A step of a processor that sleeps on is one idle machine cycle. -/
theorem step_of_asleep {s : State} (hint : s.beginFrame.interruptTaken = none) (h : s.beginFrame.asleep = true) :
    step s = .next (s.beginFrame.idle.report (some .halted)).frameEnd := by
  rw [step_eq, State.advance, hint, h]
  rfl

/-- A processor that does not sleep on steps as a running one. -/
theorem cpuStep_of_not_asleep {s : State} (h : ¬s.asleep = true) :
    s.cpuStep = (s.mapCpu fun c => { c with mode := .running }).cpuStep := by
  rw [cpuStep_eq, cpuStep_eq, if_neg h]
  rfl

/-- Settles O49: in either mode the wake condition is that of `State.asleep`. -/
theorem haltedAndStopped : Obligations.HaltedAndStopped := by
  unfold Obligations.HaltedAndStopped
  intro s hint b pressed pending running idles
  have hwakes : ∀ {wake : Prop}, (wake ↔ ¬b.asleep = true) → (¬wake → idles) ∧ (wake → b.cpuStep = running.cpuStep) :=
    fun hwake => ⟨fun h => step_of_asleep hint (not_not.1 (mt hwake.2 h)), fun h => cpuStep_of_not_asleep (hwake.1 h)⟩
  refine ⟨fun hmode => hwakes ?_, fun hmode => hwakes ?_⟩
  · exact not_congr (asleep_of_halted hmode).symm
  · rw [asleep_of_stopped hmode, not_not, anyPressed_iff]

/-! ## EI (R328) -/

/-- Where the dispatch table holds an operation that no rule describes, the form read is an undefined opcode. -/
theorem fetchForm_of_otherOperation {s : State} (h : s.otherOperation ≠ none) :
    ∃ code, s.fetchForm.1 = .undefined code := by
  unfold State.otherOperation at h
  unfold State.fetchForm DispatchTable.first
  dsimp only at h ⊢
  split at h
  · rw [if_pos ‹_›]
    refine ⟨s.fetched.readByte s.fetched.cpu.pc, ?_⟩
    have hcb : s.cfg.dispatch.cbEntry (s.fetched.readByte s.fetched.cpu.pc) = .other := not_not.1 fun k => h (if_neg k)
    show DispatchTable.cbForm _ _ = _
    rw [DispatchTable.cbForm, hcb]
  · rw [if_neg ‹_›]
    have hbase : s.cfg.dispatch.baseEntry (s.readByte s.cpu.pc) = .other := not_not.1 fun k => h (if_neg k)
    rw [hbase]
    exact ⟨s.readByte s.cpu.pc, rfl⟩

/-- Fetching an instruction changes the processor in PC alone, and keeps the configuration. -/
theorem fetchForm_cpu_cfg (s : State) :
    (∃ pc, s.fetchForm.2.cpu = { s.cpu with pc := pc }) ∧ s.fetchForm.2.cfg = s.cfg := by
  obtain ⟨n, bs, hfetch, -⟩ := fetchForm_spec s
  obtain ⟨hcpu, -, -, hcfg, -⟩ := fetchBytes_spec n s
  rw [hfetch] at hcpu hcfg
  exact ⟨⟨_, hcpu⟩, hcfg⟩

theorem opEi_cpu_of_delay {s : State} (h : s.cfg.eiDelay = true) :
    (opEi s).cpu = { s.cpu with imePending := true } := by
  rw [opEi, if_pos h, State.mapCpu_cpu]

/-- With `EI_DELAY` = 1 and no EI pending, a step that executes EI only makes one pending: IME is what it was. -/
theorem executed_ei {s : State} (hdelay : s.cfg.eiDelay = true) (hform : s.awake.fetchForm.1 = .ei)
    (hpending : s.cpu.imePending = false) : s.executed.cpu.ime = s.cpu.ime ∧ s.executed.cpu.imePending = true := by
  have hother : s.awake.otherOperation = none := by
    by_contra h
    obtain ⟨code, hcode⟩ := fetchForm_of_otherOperation h
    rw [hform] at hcode
    cases hcode
  have hmatures : s.eiMatures = false := by rw [State.eiMatures, hpending, Bool.and_false]
  obtain ⟨⟨pc, hcpu⟩, hcfg⟩ := fetchForm_cpu_cfg s.awake
  have hexec : s.executed.cpu = (opEi s.awake.fetchForm.2).cpu := by
    rw [State.executed, hother, hmatures, finishStep_false_cpu, hform]
    rfl
  rw [hexec, opEi_cpu_of_delay (by rw [hcfg]; exact hdelay), hcpu]
  exact ⟨rfl, rfl⟩

/-- The processor after an iteration that executes: what follows `Step()` leaves it alone (R471, R474). -/
theorem advance_cpu_of_not_asleep {s : State} (hint : s.interruptTaken = none) (h : s.asleep = false) :
    s.advance.cpu = s.executed.cpu := by
  obtain ⟨hcpu, -⟩ := afterStep_spec s.executed
  rw [State.advance, hint, h]
  exact hcpu

/-- With IME clear no interrupt is taken, whatever the refresh requests. -/
theorem beginFrame_interruptTaken_of_ime {s : State} (h : s.cpu.ime = false) : s.beginFrame.interruptTaken = none := by
  obtain ⟨hcpu, -⟩ := beginFrame_spec s
  rw [State.interruptTaken, hcpu, h]
  rfl

/-- Settles O50: EI sets `imePending` or IME; the step of an EI makes nothing mature, so IME stays clear and the next
iteration takes no interrupt; and a pending EI matures at the end of a step. -/
theorem eiDelay : Obligations.EiDelay := by
  unfold Obligations.EiDelay
  refine ⟨rfl, fun _ => rfl, fun s t hdelay hime hint hawake hform hpending ht => ?_, fun _ => rfl, fun p t h => ?_,
    fun p t code h => ?_⟩
  · rw [step_eq] at ht
    cases ht
    obtain ⟨hcpu, hcfg, -⟩ := beginFrame_spec s
    obtain ⟨hime', hpending'⟩ := executed_ei (hcfg ▸ hdelay) hform (hcpu ▸ hpending)
    rw [hcpu, hime] at hime'
    rw [← advance_cpu_of_not_asleep hint hawake] at hime' hpending'
    exact ⟨hime', hpending', beginFrame_interruptTaken_of_ime hime'⟩
  · exact (finishStep_of_no_unknownOpcode h).1
  · rw [finishStep_of_unknownOpcode h]

end Sys2Proof.Machine
end

section
/-! PROOFS. The joypad lines (O53), the interrupt taken and its service (O45, O46), the fault hook (O51), and what a
step costs and how a frame ends (O28, O52). -/

namespace Sys2Proof.Machine

/-! ## The joypad (R366, R367) -/

/-- A line is low exactly when the selected groups have its button pressed (R366). -/
theorem joypadLine_low (dir act dirKey actKey : Bool) :
    (!(!dir && dirKey || !act && actKey)) = false ↔ dir = false ∧ dirKey = true ∨ act = false ∧ actKey = true := by
  rw [Bool.not_eq_false', Bool.or_eq_true, Bool.and_eq_true, Bool.and_eq_true, Bool.not_eq_true', Bool.not_eq_true']

/-- The four bits of a nibble put together from its top bit down. -/
theorem nibble_bits (b3 b2 b1 b0 : Bool) :
    let n := BitVec.ofBool b3 ++ BitVec.ofBool b2 ++ BitVec.ofBool b1 ++ BitVec.ofBool b0
    n.getLsbD 0 = b0 ∧ n.getLsbD 1 = b1 ∧ n.getLsbD 2 = b2 ∧ n.getLsbD 3 = b3 := by
  revert b3 b2 b1 b0
  decide

/-- Some line falls exactly when some bit goes from 1 to 0 (R367). -/
theorem lineFalls_iff (before after : BitVec 4) :
    lineFalls before after = true ↔ ∃ i < 4, before.getLsbD i = true ∧ after.getLsbD i = false := by
  rw [lineFalls, decide_eq_true_iff]
  constructor
  · intro hne
    by_contra hnone
    refine hne (BitVec.eq_of_getLsbD_eq fun i hi => ?_)
    rw [BitVec.getLsbD_and, BitVec.getLsbD_not, decide_eq_true hi, Bool.true_and, BitVec.getLsbD_zero]
    by_contra hbit
    obtain ⟨hbefore, hafter⟩ := Bool.and_eq_true_iff.1 (Bool.not_eq_false _ ▸ hbit)
    exact hnone ⟨i, hi, hbefore, Bool.not_eq_true' _ ▸ hafter⟩
  · rintro ⟨i, hi, hbefore, hafter⟩ hzero
    have hbit : (before &&& ~~~after).getLsbD i = (0#4).getLsbD i := by rw [hzero]
    rw [BitVec.getLsbD_and, BitVec.getLsbD_not, hbefore, hafter, decide_eq_true hi, BitVec.getLsbD_zero] at hbit
    exact Bool.noConfusion hbit

section
variable {s : State} {new : InputLatch}

/-- A refresh under which some line falls requests interrupt 4 (R367). -/
theorem refreshLatch_of_falls
    (h : lineFalls (joypNibble s.outside.latch s.units.bus.joypSelect) (joypNibble new s.units.bus.joypSelect)) :
    s.refreshLatch new =
      { s with outside := { s.outside with latch := new }, units := requestInterrupt 4 s.units } :=
  if_pos h

/-- A refresh under which no line falls replaces the latch alone (R367). -/
theorem refreshLatch_of_not_falls
    (h : ¬lineFalls (joypNibble s.outside.latch s.units.bus.joypSelect) (joypNibble new s.units.bus.joypSelect)) :
    s.refreshLatch new = { s with outside := { s.outside with latch := new } } :=
  if_neg h

end

/-- Settles O53: the nibble bit by bit, and the refresh by whether some line falls. -/
theorem joypadLines : Obligations.JoypadLines := by
  unfold Obligations.JoypadLines
  constructor
  · intro l sel low
    obtain ⟨h0, h1, h2, h3⟩ := nibble_bits
      (!(!sel.getLsbD 0 && l.down || !sel.getLsbD 1 && l.start))
      (!(!sel.getLsbD 0 && l.up || !sel.getLsbD 1 && l.select))
      (!(!sel.getLsbD 0 && l.left || !sel.getLsbD 1 && l.b))
      (!(!sel.getLsbD 0 && l.right || !sel.getLsbD 1 && l.a))
    exact ⟨(iff_of_eq (congrArg (· = false) h0)).trans (joypadLine_low _ _ _ _),
      (iff_of_eq (congrArg (· = false) h1)).trans (joypadLine_low _ _ _ _),
      (iff_of_eq (congrArg (· = false) h2)).trans (joypadLine_low _ _ _ _),
      (iff_of_eq (congrArg (· = false) h3)).trans (joypadLine_low _ _ _ _)⟩
  · intro s new before after refreshed
    refine ⟨fun h => refreshLatch_of_falls ((lineFalls_iff _ _).2 h),
      fun h => refreshLatch_of_not_falls fun hfalls => ?_⟩
    obtain ⟨i, hi, hbefore, hafter⟩ := (lineFalls_iff _ _).1 hfalls
    exact Bool.false_ne_true (hafter.symm.trans (h i hi hbefore))

/-! ## The interrupt taken (R349) -/

/-- The interrupt taken is the first of 0 to 4 that is requested and enabled (R349). -/
theorem nextPendingInterrupt_eq_find (t : Timer) :
    nextPendingInterrupt t = (List.range 5).find? fun k => t.intFlag.getLsbD k && t.intEnable.getLsbD k := by
  have hbit : ∀ k < 5, (t.intFlag.getLsbD k && t.intEnable.getLsbD k) = (pendingBits t).getLsbD k := fun k hk => by
    rw [pendingBits, BitVec.getLsbD_and, BitVec.getLsbD_setWidth, decide_eq_true hk, Bool.true_and]
  have hrange : List.range 5 = [0, 1, 2, 3, 4] := by decide
  rw [hrange, nextPendingInterrupt]
  simp only [List.find?_cons, List.find?_nil, hbit _ (by decide : 0 < 5), hbit _ (by decide : 1 < 5),
    hbit _ (by decide : 2 < 5), hbit _ (by decide : 3 < 5), hbit _ (by decide : 4 < 5)]
  grind

/-- Settles O45: the search of 0 to 4 finds the least, or none. -/
theorem interruptPriority : Obligations.InterruptPriority := by
  unfold Obligations.InterruptPriority
  intro t pending
  rw [nextPendingInterrupt_eq_find]
  refine ⟨fun k => ?_, ?_⟩
  · rw [List.find?_range_eq_some, List.mem_range, Nat.lt_succ_iff]
    simp only [Bool.not_eq_true']
    exact and_left_comm
  · rw [List.find?_range_eq_none]
    simp only [Nat.lt_succ_iff, Bool.not_eq_true']
    rfl

/-- Settles O46: `ServiceInterrupt` with the operations of R18 that it is made of written out. -/
theorem interruptService : Obligations.InterruptService := by
  unfold Obligations.InterruptService
  refine ⟨fun _ => rfl, fun s k hk => ?_⟩
  rw [step_eq, State.advance, hk]
  simp only [State.serviceInterrupt, State.push16, State.pushByte, State.writeByte, State.idle, State.mapCpu,
    State.mapUnits, State.report, clearRequest, vector]

/-! ## The fault hook (R474) -/

/-- Abort ends `RunFrame`, with `frameDone` as it is (R474). -/
theorem afterStep_of_abort {s : State} {code : Byte} (h : s.outside.outcome = some (.unknownOpcode code))
    (ha : s.hookAnswer code = .abort) : s.afterStep = s.hookConsulted.endFrame .abortedByHost := by
  rw [State.afterStep, h]
  dsimp only
  rw [ha]

/-- Resume goes on to the frame-end check (R471, R474). -/
theorem afterStep_of_resume {s : State} {code : Byte} (h : s.outside.outcome = some (.unknownOpcode code))
    (ha : s.hookAnswer code = .resume) : s.afterStep = s.hookConsulted.frameEnd := by
  rw [State.afterStep, h]
  dsimp only
  rw [ha]

/-- With an answer queued the hook gives it and drops it from the queue. -/
theorem hook_queued {s : State} {answer : HookAnswer} {rest : List HookAnswer} (code : Byte)
    (h : s.outside.hookQueue = answer :: rest) : s.hookAnswer code = answer ∧
      s.hookConsulted = { s with outside := { s.outside with hookQueue := rest } } := by
  rw [State.hookAnswer, State.hookConsulted, h]
  exact ⟨rfl, rfl⟩

/-- With none queued the hook gives its free value and counts the consultation. -/
theorem hook_free {s : State} (code : Byte) (h : s.outside.hookQueue = []) :
    s.hookAnswer code = Config.onUnknownOpcode s.outside.hookCalls code ∧
      s.hookConsulted = { s with outside := { s.outside with hookCalls := s.outside.hookCalls + 1 } } := by
  rw [State.hookAnswer, State.hookConsulted, h]
  exact ⟨rfl, rfl⟩

/-- Settles O51, by the two answers from the queue and the two free ones. -/
theorem faultHook : Obligations.FaultHook := by
  unfold Obligations.FaultHook
  refine fun s code hout => ⟨fun answer rest hq => ?_, fun hq => ?_⟩
  · obtain ⟨hans, hcons⟩ := hook_queued code hq
    refine ⟨fun ha => ?_, fun ha => ?_⟩
    · rw [afterStep_of_abort hout (hans.trans ha), hcons]
      rfl
    · rw [afterStep_of_resume hout (hans.trans ha), hcons]
  · obtain ⟨hans, hcons⟩ := hook_free code hq
    refine ⟨fun ha => ?_, fun ha => ?_⟩
    · rw [afterStep_of_abort hout (hans.trans ha), hcons]
      rfl
    · rw [afterStep_of_resume hout (hans.trans ha), hcons]

/-! ## What a step costs (R476) -/

/-- `v` is `n` machine cycles after `u` as far as the counter and `frameDone` tell: the counter is `4 * n` further,
modulo the frame, and `frameDone` is set if it was or if the counter wrapped (R73). -/
structure Elapsed (u : Units) (n : Nat) (v : Units) : Prop where
  cycles : v.cycles = (u.cycles + 4 * n) % frameCycles
  frameDone : v.frameDone = (u.frameDone || decide (v.cycles < u.cycles))

theorem Evolves.elapsed {cfg : Config} {n : Nat} {u v : Units} (h : Evolves cfg u n v) (hu : u.cycles < frameCycles)
    (hn : n ≤ 6) : Elapsed u n v :=
  ⟨h.cycles hu, h.frameDone hu (by simp only [frameCycles]; omega)⟩

/-- The service of an interrupt takes five machine cycles (R351). -/
theorem serviceInterrupt_elapsed (k : Nat) {s : State} (hs : s.units.cycles < frameCycles) :
    Elapsed s.units 5 (s.serviceInterrupt k).units := by
  obtain ⟨u, hu, e⟩ := serviceInterrupt_units k s
  obtain ⟨hcycles, hdone⟩ := hu.elapsed hs (by decide)
  have hlt : (clearRequest k u).cycles < frameCycles := hcycles ▸ Nat.mod_lt _ (by decide)
  have hlast := ticks_cycles 4 _ hlt
  have hwrap := ticks_frameDone 4 _ hlt (by decide)
  rw [e]
  constructor
  · rw [hlast]
    show (u.cycles + 4) % frameCycles = _
    rw [hcycles, Nat.mod_add_mod]
  · rw [hwrap, hlast]
    show (u.frameDone || decide (frameCycles ≤ u.cycles + 4)) = (_ || decide ((u.cycles + 4) % frameCycles < _))
    rw [hdone, Bool.or_assoc, ← Bool.decide_or, hcycles]
    congr 2
    simp only [frameCycles] at *
    exact propext (by omega)

/-- An iteration is the end of an iteration after 1 to 6 machine cycles (R471, R476). -/
theorem advance_elapsed (s : State) : ∃ (t : State) (n : Nat), s.advance = t.afterStep ∧ 1 ≤ n ∧ n ≤ 6 ∧
    (s.units.cycles < frameCycles → Elapsed s.units n t.units) := by
  obtain ⟨t, e, ⟨k, rfl⟩ | ⟨n, h1, h6, hran⟩⟩ := advance_eq_afterStep s
  · exact ⟨_, 5, e, by decide, by decide, serviceInterrupt_elapsed k⟩
  · exact ⟨t, n, e, h1, h6, fun hs => hran.evolves.elapsed hs h6⟩

@[simp] theorem beginFrame_cycles (s : State) : s.beginFrame.units.cycles = s.units.cycles := by
  obtain ⟨-, -, -, -, -, e | e⟩ := beginFrame_spec s <;> rw [e]
  rfl

@[simp] theorem beginFrame_frameDone (s : State) : s.beginFrame.units.frameDone = s.units.frameDone := by
  obtain ⟨-, -, -, -, -, e | e⟩ := beginFrame_spec s <;> rw [e]
  rfl

/-- The end of an iteration takes no time. -/
@[simp] theorem afterStep_cycles (s : State) : s.afterStep.units.cycles = s.units.cycles := by
  obtain ⟨-, -, e | ⟨e, -⟩⟩ := afterStep_spec s <;> rw [e]

/-- Settles O28: a step is the refresh and an iteration, which takes 1 to 6 machine cycles. -/
theorem stepAlwaysCompletes : Obligations.StepAlwaysCompletes := by
  unfold Obligations.StepAlwaysCompletes
  intro s
  obtain ⟨t, n, e, h1, h6, helapsed⟩ := advance_elapsed s.beginFrame
  refine ⟨_, n, step_eq s, h1, h6, fun hs => ?_⟩
  rw [e, afterStep_cycles, (helapsed ((beginFrame_cycles s).symm ▸ hs)).cycles, beginFrame_cycles]

/-! ## The end of a frame (R471 to R474) -/

/-- Settles O52: the units at the frame-end check are 1 to 6 machine cycles after those of a state whose counter is a
multiple of four, and only an abort passes the check over. -/
theorem frameEnd : Obligations.FrameEnd := by
  unfold Obligations.FrameEnd
  intro s t h ht returned
  have hlt := h.units.cycles_lt
  have haligned := h.cycles_aligned
  rw [step_eq] at ht
  cases ht
  obtain ⟨v, n, e, h1, h6, helapsed⟩ := advance_elapsed s.beginFrame
  obtain ⟨hcycles, hdone⟩ := helapsed ((beginFrame_cycles s).symm ▸ hlt)
  rw [beginFrame_cycles] at hcycles hdone
  rw [beginFrame_frameDone] at hdone
  have hdone_iff : v.units.frameDone = true ↔ s.units.frameDone = true ∨ v.units.cycles < s.units.cycles := by
    rw [hdone, Bool.or_eq_true, decide_eq_true_iff]
  obtain ⟨houtcome, hend⟩ := afterStep_frame v
  simp only [returned, e, afterStep_cycles, houtcome]
  obtain ⟨hclear, hreturned⟩ | ⟨hkept, hreturned, hcode⟩ := hend
  · rw [hreturned, hclear]
    by_cases hd : v.units.frameDone = true
    · rw [if_pos hd]
      refine ⟨fun _ => ⟨rfl, ?_, fun hs => ?_⟩, fun _ => .inl rfl, fun hr => (nomatch hr)⟩
      · simp only [frameCycles] at *
        omega
      · have hwrap : v.units.cycles < s.units.cycles := (hdone_iff.1 hd).resolve_left (Bool.eq_false_iff.1 hs)
        simp only [frameCycles] at *
        omega
    · rw [if_neg hd]
      exact ⟨fun hr => (nomatch hr), fun hc => absurd (hdone_iff.2 hc) hd, fun hr => (nomatch hr)⟩
  · rw [hreturned, hkept]
    exact ⟨fun hr => (nomatch hr), fun hc => .inr ⟨rfl, hdone_iff.2 hc⟩, fun _ => hcode⟩

end Sys2Proof.Machine
end

section
/-! PROOFS. The timer unit's cadence (O54, O55) and the timeline of LY (O56). -/

namespace Sys2Proof.Machine

/-! ## What the other units leave of the timer's counters -/

/-- DIV and TIMA with their targets (R31, R32, R35, R36). -/
structure Counters where
  div : Byte
  nextDIVCycle : Nat
  tima : Byte
  nextTIMACycle : Nat

def Timer.counters (t : Timer) : Counters := ⟨t.div, t.nextDIVCycle, t.tima, t.nextTIMACycle⟩

theorem lyStep_counters (u : Units) : (lyStep u).timer.counters = u.timer.counters := by
  unfold lyStep compareLYC
  dsimp only
  split
  · rfl
  · split <;> rfl

/-- In a tick the counters are changed by the DIV and the TIMA step alone (R380). -/
theorem tick_counters (u : Units) :
    (tick u).timer.counters = (timaStep (divStep (advanceCycle u))).timer.counters :=
  Eq.trans (congrArg Timer.counters (pixelTick_base _).timer :) (lyStep_counters _)

theorem timaStep_div (u : Units) :
    (timaStep u).timer.div = u.timer.div ∧ (timaStep u).timer.nextDIVCycle = u.timer.nextDIVCycle := by
  unfold timaStep
  dsimp only
  split
  · split <;> exact ⟨rfl, rfl⟩
  · exact ⟨rfl, rfl⟩

/-- The DIV step leaves TIMA's side of the timer alone (R383). -/
theorem divStep_tima (u : Units) :
    (divStep u).timer.tima = u.timer.tima ∧ (divStep u).timer.nextTIMACycle = u.timer.nextTIMACycle ∧
      (divStep u).timer.tma = u.timer.tma ∧ (divStep u).timer.tac = u.timer.tac ∧
      (divStep u).timer.intFlag = u.timer.intFlag := by
  unfold divStep
  split <;> exact ⟨rfl, rfl, rfl, rfl, rfl⟩

@[simp] theorem ticks_tac (n : Nat) (u : Units) : (ticks n u).timer.tac = u.timer.tac :=
  congrArg Held.tac (ticks_held n u)

@[simp] theorem ticks_tma (n : Nat) (u : Units) : (ticks n u).timer.tma = u.timer.tma :=
  congrArg Held.tma (ticks_held n u)

/-! ## DIV (R383) -/

/-- DIV and its target after a tick are those after the DIV step. -/
theorem tick_div (u : Units) : (tick u).timer.div = (divStep (advanceCycle u)).timer.div ∧
    (tick u).timer.nextDIVCycle = (divStep (advanceCycle u)).timer.nextDIVCycle := by
  obtain ⟨hdiv, hnext⟩ := timaStep_div (divStep (advanceCycle u))
  exact ⟨(congrArg Counters.div (tick_counters u)).trans hdiv,
    (congrArg Counters.nextDIVCycle (tick_counters u)).trans hnext⟩

/-- A tick that meets DIV's target adds one, and the next target is 256 ticks away. -/
theorem tick_div_of_target {u : Units} (h : (u.cycles + 1) % frameCycles = u.timer.nextDIVCycle) :
    (tick u).timer.div = u.timer.div + 1#8 ∧ (tick u).timer.nextDIVCycle = ((tick u).cycles + 256) % frameCycles := by
  obtain ⟨hdiv, hnext⟩ := tick_div u
  have hstep : divStep (advanceCycle u) = _ := if_pos h
  rw [hdiv, hnext, hstep, tick_cycles]
  exact ⟨rfl, rfl⟩

/-- A tick that does not meet it changes neither. -/
theorem tick_div_of_no_target {u : Units} (h : (u.cycles + 1) % frameCycles ≠ u.timer.nextDIVCycle) :
    (tick u).timer.div = u.timer.div ∧ (tick u).timer.nextDIVCycle = u.timer.nextDIVCycle := by
  obtain ⟨hdiv, hnext⟩ := tick_div u
  have hstep : divStep (advanceCycle u) = _ := if_neg h
  rw [hdiv, hnext, hstep]
  exact ⟨rfl, rfl⟩

/-- With DIV's target `d` ticks ahead, `n` ticks add one on the `d`-th and on every 256th after it. -/
theorem ticks_div (n : Nat) {u : Units} {d : Nat} (hc : u.cycles < frameCycles) (h1 : 1 ≤ d) (h256 : d ≤ 256)
    (hnext : u.timer.nextDIVCycle = (u.cycles + d) % frameCycles) :
    (ticks n u).timer.div = u.timer.div + BitVec.ofNat 8 ((n + 256 - d) / 256) := by
  induction n generalizing u d with
  | zero =>
    rw [Nat.div_eq_of_lt (by omega)]
    exact (BitVec.add_zero _).symm
  | succ n ih =>
    have hc' : (tick u).cycles < frameCycles := by
      rw [tick_cycles]
      exact Nat.mod_lt _ (by decide)
    show (ticks n (tick u)).timer.div = _
    by_cases hd : d = 1
    · obtain ⟨hdiv, hnext'⟩ := tick_div_of_target (hd ▸ hnext).symm
      rw [ih hc' (by decide) (Nat.le_refl 256) hnext', hdiv, BitVec.add_assoc, ← BitVec.ofNat_add, hd]
      congr 2
      omega
    · obtain ⟨hdiv, hnext'⟩ := tick_div_of_no_target (u := u) (by rw [hnext]; simp only [frameCycles] at *; omega)
      rw [ih (d := d - 1) hc' (by omega) (by omega)
        (by rw [hnext', hnext, tick_cycles]; simp only [frameCycles]; omega), hdiv]
      congr 3
      omega

/-- Settles O54: a frame is 256 ticks 4389 / 16 times over. -/
theorem divCadence : Obligations.DivCadence := by
  unfold Obligations.DivCadence
  intro u d hc h1 h256 hnext
  refine ⟨fun n => ticks_div n hc h1 h256 hnext, ?_⟩
  rw [ticks_div _ hc h1 h256 hnext]
  congr 2
  omega

/-! ## The pipeline requests interrupts 0 and 1 alone -/

section
variable (u : Units) {j : Nat}

theorem fetcherStep_timer : (fetcherStep u).timer = u.timer := by
  unfold fetcherStep
  dsimp only
  split <;> split <;> rfl

theorem outputPixel_timer : (outputPixel u).timer = u.timer := by
  unfold outputPixel
  split <;> rfl

theorem spriteTrigger_timer {v : Units} (h : spriteTrigger u = some v) : v.timer = u.timer := by
  unfold spriteTrigger at h
  split at h
  · obtain ⟨r, -, rfl⟩ := Option.map_eq_some_iff.1 h
    rfl
  · cases h

theorem drawPixel_timer : (drawPixel u).timer = u.timer := by
  unfold drawPixel
  split
  · rfl
  · split
    · rfl
    · split
      · exact spriteTrigger_timer u ‹_›
      · exact outputPixel_timer u

theorem stallTick_timer : (stallTick u).timer = u.timer := by
  unfold stallTick
  dsimp only
  split
  · split <;> rfl
  · rfl

/-- Drawing touches the timer in nothing. -/
theorem drawTick_timer : (drawTick u).timer = u.timer := by
  unfold drawTick
  split
  · exact stallTick_timer u
  · exact (drawPixel_timer _).trans (fetcherStep_timer u)

/-- A STAT source leaves the interrupts from 2 on alone (R437). -/
theorem requestStat_bit_from_two (n : Nat) (h2 : 2 ≤ j) (h5 : j < 5) :
    (requestStat n u).timer.intFlag.getLsbD j = u.timer.intFlag.getLsbD j := by
  rw [requestStat_bit n u h5, decide_eq_false (by omega), Bool.and_false, Bool.or_false]

/-- The mode controller leaves the interrupts from 2 on alone (R415 to R417). -/
theorem modeStep_bit_from_two (h2 : 2 ≤ j) (h5 : j < 5) :
    (modeStep u).timer.intFlag.getLsbD j = u.timer.intFlag.getLsbD j := by
  have hstart : (if u.timer.ly.toNat = 0 then frameStart u else u).timer = u.timer := by split <;> rfl
  rw [← hstart]
  unfold modeStep
  dsimp only
  split
  · split
    · exact requestStat_bit_from_two _ 5 h2 h5
    · split
      · refine (requestStat_bit_from_two _ 4 h2 h5).trans ((requestInterrupt_bit 0 _ h5).trans ?_)
        rw [decide_eq_false (by omega), Bool.or_false]
        rfl
      · rfl
  · rw [hstart]
    split <;> rfl

theorem drawStep_bit_from_two (h2 : 2 ≤ j) (h5 : j < 5) :
    (drawStep u).timer.intFlag.getLsbD j = u.timer.intFlag.getLsbD j := by
  unfold drawStep
  split
  · split
    · exact requestStat_bit_from_two _ 3 h2 h5
    · rw [drawTick_timer]
  · rfl

/-- `PixelTick()` leaves the interrupts from 2 on alone. -/
theorem pixelTick_bit_from_two (h2 : 2 ≤ j) (h5 : j < 5) :
    (pixelTick u).timer.intFlag.getLsbD j = u.timer.intFlag.getLsbD j := by
  rw [pixelTick, drawStep_bit_from_two _ h2 h5, blankStep_timer, modeStep_bit_from_two _ h2 h5]

/-- The LY step leaves them alone (R390). -/
theorem lyStep_bit_from_two (h2 : 2 ≤ j) (h5 : j < 5) :
    (lyStep u).timer.intFlag.getLsbD j = u.timer.intFlag.getLsbD j := by
  unfold lyStep compareLYC
  dsimp only
  split
  · rfl
  · split
    · rw [requestInterrupt_bit 1 _ h5, decide_eq_false (by omega), Bool.or_false]
    · rfl

end

/-! ## TIMA (R385, R388) -/

/-- TIMA, its target and interrupt 2 after a tick are those after the TIMA step. -/
theorem tick_tima (u : Units) :
    (tick u).timer.tima = (timaStep (divStep (advanceCycle u))).timer.tima ∧
      (tick u).timer.nextTIMACycle = (timaStep (divStep (advanceCycle u))).timer.nextTIMACycle ∧
      (tick u).timer.intFlag.getLsbD 2 = (timaStep (divStep (advanceCycle u))).timer.intFlag.getLsbD 2 :=
  ⟨congrArg Counters.tima (tick_counters u), congrArg Counters.nextTIMACycle (tick_counters u),
    (pixelTick_bit_from_two _ (by decide) (by decide)).trans (lyStep_bit_from_two _ (by decide) (by decide))⟩

/-- The tick counts: it meets the target of an enabled timer (R385). -/
def TimaDue (u : Units) : Prop :=
  tacEnabled u.timer.tac = true ∧ (u.cycles + 1) % frameCycles = u.timer.nextTIMACycle

/-- The same, seen by the TIMA step after the DIV step. -/
theorem timaDue_iff (u : Units) : TimaDue u ↔ tacEnabled (divStep (advanceCycle u)).timer.tac = true ∧
    (divStep (advanceCycle u)).cycles = (divStep (advanceCycle u)).timer.nextTIMACycle := by
  obtain ⟨-, hnext, -, htac, -⟩ := divStep_tima (advanceCycle u)
  rw [htac, hnext, (divStep_only _).cycles]
  rfl

/-- A tick on which TIMA does not count leaves it, its target and interrupt 2 alone. -/
theorem tick_tima_of_not_due {u : Units} (h : ¬TimaDue u) :
    (tick u).timer.tima = u.timer.tima ∧ (tick u).timer.nextTIMACycle = u.timer.nextTIMACycle ∧
      (tick u).timer.intFlag.getLsbD 2 = u.timer.intFlag.getLsbD 2 := by
  obtain ⟨htima, hnext, hflag⟩ := tick_tima u
  obtain ⟨dtima, dnext, -, -, dflag⟩ := divStep_tima (advanceCycle u)
  have hstep : timaStep (divStep (advanceCycle u)) = divStep (advanceCycle u) := if_neg (mt (timaDue_iff u).2 h)
  rw [htima, hnext, hflag, hstep, dtima, dnext, dflag]
  exact ⟨rfl, rfl, rfl⟩

/-- A tick on which TIMA counts: one more, or on overflow TMA and interrupt 2, and the next target a period away. -/
theorem tick_tima_of_due {u : Units} (h : TimaDue u) :
    (u.timer.tima ≠ 0xFF#8 → (tick u).timer.tima = u.timer.tima + 1#8) ∧
      (u.timer.tima = 0xFF#8 → (tick u).timer.tima = u.timer.tma ∧ (tick u).timer.intFlag.getLsbD 2 = true) ∧
      (tick u).timer.nextTIMACycle = ((tick u).cycles + timaPeriod u.timer.tac) % frameCycles := by
  obtain ⟨htima, hnext, hflag⟩ := tick_tima u
  obtain ⟨dtima, -, dtma, dtac, -⟩ := divStep_tima (advanceCycle u)
  have hcycles : (divStep (advanceCycle u)).cycles = (tick u).cycles :=
    (divStep_only _).cycles.trans (tick_cycles u).symm
  rw [htima, hnext, hflag, ← hcycles]
  have hwraps : (divStep (advanceCycle u)).timer.tima + 1#8 = 0#8 ↔ u.timer.tima = 0xFF#8 := by
    rw [dtima]
    show u.timer.tima + 1#8 = 0#8 ↔ _
    bv_omega
  unfold timaStep
  rw [if_pos ((timaDue_iff u).1 h)]
  dsimp only
  split
  · rename_i h0
    have hff := hwraps.1 h0
    exact ⟨fun hne => absurd hff hne,
      fun _ => ⟨dtma, (requestInterrupt_bit 2 _ (by decide)).trans (Bool.or_true _)⟩,
      by rw [dtac]; rfl⟩
  · rename_i h0
    exact ⟨fun _ => by rw [dtima]; rfl, fun hff => absurd (hwraps.2 hff) h0, by rw [dtac]; rfl⟩

/-- Ticks of which none counts leave TIMA, its target and interrupt 2 alone. -/
theorem ticks_tima_of_not_due {n : Nat} {u : Units}
    (h : ∀ j < n, ¬(tacEnabled u.timer.tac = true ∧ (u.cycles + (j + 1)) % frameCycles = u.timer.nextTIMACycle)) :
    (ticks n u).timer.tima = u.timer.tima ∧ (ticks n u).timer.nextTIMACycle = u.timer.nextTIMACycle ∧
      (ticks n u).timer.intFlag.getLsbD 2 = u.timer.intFlag.getLsbD 2 := by
  induction n generalizing u with
  | zero => exact ⟨rfl, rfl, rfl⟩
  | succ n ih =>
    obtain ⟨htima, hnext, hflag⟩ := tick_tima_of_not_due (h 0 (Nat.succ_pos n))
    have htac : (tick u).timer.tac = u.timer.tac := ticks_tac 1 u
    show (ticks n (tick u)).timer.tima = _ ∧ (ticks n (tick u)).timer.nextTIMACycle = _ ∧
      (ticks n (tick u)).timer.intFlag.getLsbD 2 = _
    rw [← htima, ← hnext, ← hflag]
    refine ih fun j hj => ?_
    rw [htac, hnext, tick_cycles, Nat.mod_add_mod, Nat.add_assoc, Nat.add_comm 1]
    exact h (j + 1) (Nat.succ_lt_succ hj)

/-- Settles O55: up to the period's last tick none counts, that one does; none counts while the timer is disabled. -/
theorem timaCadence : Obligations.TimaCadence := by
  unfold Obligations.TimaCadence
  refine ⟨fun u p hc hen hp hnext => ?_, fun u n hdis => ?_⟩
  · have hperiod : timaPeriod u.timer.tac = p := by
      rw [timaPeriod_eq]
      obtain ⟨h, rfl⟩ | ⟨h, rfl⟩ | ⟨h, rfl⟩ | ⟨h, rfl⟩ := hp <;> rw [h] <;> rfl
    obtain ⟨h16, h1024⟩ := timaPeriod_bounds u.timer.tac
    rw [hperiod] at h16 h1024
    have hold : ∀ j < p, (ticks j u).timer.tima = u.timer.tima ∧
        (ticks j u).timer.nextTIMACycle = u.timer.nextTIMACycle := fun j hj => by
      obtain ⟨htima, hnext', -⟩ := ticks_tima_of_not_due (n := j) (u := u) fun i hi hdue => by
        have hmeets := hdue.2.trans hnext
        simp only [frameCycles] at hmeets
        omega
      exact ⟨htima, hnext'⟩
    obtain ⟨q, rfl⟩ : ∃ q, p = q + 1 := ⟨p - 1, by omega⟩
    obtain ⟨htima, hnext'⟩ := hold q (Nat.lt_succ_self q)
    have hlast : ticks (q + 1) u = tick (ticks q u) := ticks_add q 1 u
    have hdue : TimaDue (ticks q u) := by
      refine ⟨(congrArg tacEnabled (ticks_tac q u)).trans hen, ?_⟩
      rw [hnext', hnext, ticks_cycles q u hc, Nat.mod_add_mod]
      rfl
    obtain ⟨hcount, hover, htarget⟩ := tick_tima_of_due hdue
    rw [htima, ticks_tma, ← hlast] at hover
    rw [htima, ← hlast] at hcount
    rw [ticks_tac, hperiod, ← hlast] at htarget
    exact ⟨fun j hj => (hold j hj).1, hcount, hover, htarget⟩
  · exact ticks_tima_of_not_due fun j _ hdue => Bool.false_ne_true (hdis.symm.trans hdue.1)

/-! ## LY (R389) -/

/-- Settles O56: the invariant gives LY after the ticks from the counter after them. -/
theorem lyTimeline : Obligations.LyTimeline := by
  unfold Obligations.LyTimeline
  intro u n h
  have hly : (ticks n u).timer.ly.toNat = (u.cycles + n) % 70224 / 456 := by
    rw [(ticks_inv n h).ly_eq, ticks_cycles n u h.cycles_lt]
    rfl
  refine ⟨hly, ?_⟩
  omega

end Sys2Proof.Machine
end

section
/-! PROOFS. The OAM scan (O58) and the pixel output (O59). -/

namespace Sys2Proof.Machine

/-! ## The OAM scan (R418) -/

theorem mem_take_singleton {a b m : Nat} : a ∈ [b].take m ↔ a = b ∧ 0 < m := by
  cases m <;> simp

/-- The first `m` selected numbers below `n` are those with fewer than `m` selected ones before them. -/
theorem mem_take_filter_range {p : Nat → Bool} {n m i : Nat} :
    i ∈ ((List.range n).filter p).take m ↔ i < n ∧ p i = true ∧ ((List.range i).filter p).length < m := by
  induction n with
  | zero => simp
  | succ n ih =>
    have hlast : i ∈ ([n].filter p).take (m - ((List.range n).filter p).length) ↔
        i = n ∧ p i = true ∧ ((List.range i).filter p).length < m := by
      cases hp : p n with
      | true =>
        rw [List.filter_cons_of_pos hp, List.filter_nil, mem_take_singleton, Nat.sub_pos_iff_lt]
        refine and_congr_right ?_
        rintro rfl
        exact (and_iff_right hp).symm
      | false =>
        rw [List.filter_cons_of_neg (Bool.eq_false_iff.1 hp), List.filter_nil, List.take_nil]
        refine iff_of_false List.not_mem_nil ?_
        rintro ⟨rfl, hp', -⟩
        exact Bool.false_ne_true (hp.symm.trans hp')
    rw [List.range_succ, List.filter_append, List.take_append, List.mem_append, ih, hlast, ← or_and_right,
      Nat.lt_succ_iff_lt_or_eq]

/-- The scan's selection test is the one of R418. -/
theorem scanSelects_eq (u : Units) (i : Nat) : scanSelects u i =
    (decide (u.timer.ly.toNat + 16 ≥ (Memory.read u.bus.mem (0xFE00 + 4 * i)).toNat) &&
      decide (u.timer.ly.toNat + 16 < (Memory.read u.bus.mem (0xFE00 + 4 * i)).toNat + spriteHeight u.ppu)) :=
  Bool.decide_and _ _

/-- Settles O58: the scan takes the first ten of the selected indices, which rise. -/
theorem scanFirstTen : Obligations.ScanFirstTen := by
  unfold Obligations.ScanFirstTen
  intro u i h selects
  have hselects : scanSelects u = selects := funext (scanSelects_eq u)
  have hscan : scanOam u =
      (((List.range 40).filter selects).take 10).map fun i => { index := i, fetched := false } := by
    rw [scanOam, hselects]
  rw [hscan]
  refine ⟨?_, ?_, ?_⟩
  · rw [← mem_take_filter_range]
    simp only [List.mem_map, exists_exists_and_eq_and, exists_eq_right]
  · rw [List.pairwise_map]
    exact (List.pairwise_lt_range.filter _).take
  · simp only [List.mem_map, forall_exists_index, and_imp, forall_apply_eq_imp_iff₂, implies_true]

/-! ## The pixel output (R431, R432) -/

/-- The shade of a colour index is a base-four digit of the palette (R444). -/
theorem shadeOf_toNat (palette : Byte) (ci : BitVec 2) :
    (shadeOf palette ci).toNat = palette.toNat / 2 ^ (2 * ci.toNat) % 4 := by
  rw [shadeOf, BitVec.toNat_setWidth, BitVec.toNat_ushiftRight, Nat.shiftRight_eq_div_pow]

/-- The mixing rule (R431). -/
theorem spriteWins_iff (bg sp : FifoEntry) : spriteWins bg (some sp) = true ↔
    sp.colorIndex ≠ 0#2 ∧ ¬(bg.priorityBit = true ∧ sp.priorityBit = true) := by
  simp only [spriteWins, Bool.and_eq_true, decide_eq_true_iff, Bool.not_eq_true', ← Bool.not_eq_true]

/-- The pixel output, with an entry at the front of the BG FIFO (R432). -/
theorem outputPixel_cons {u : Units} {bg : FifoEntry} {rest : List FifoEntry} (h : u.ppu.bgFifo = bg :: rest) :
    outputPixel u = { u with ppu := { u.ppu with
      bgFifo := rest
      spriteFifo := u.ppu.spriteFifo.tail
      lcd := if u.ppu.blankFrame then u.ppu.lcd
        else Sparse.write 0#2 u.ppu.lcd (160 * u.timer.ly.toNat + u.ppu.lcdX)
          (mixedShade u.ppu bg u.ppu.spriteFifo.head?)
      lcdX := u.ppu.lcdX + 1 } } := by
  rw [outputPixel, h]

/-- Settles O59: the cell written reads as the mixed shade, which the mixing rule takes from one of the two pixels. -/
theorem pixelOutput : Obligations.PixelOutput := by
  unfold Obligations.PixelOutput
  intro u bg rest h wins cell v bgShade spShade
  have hv : v = _ := outputPixel_cons h
  rw [hv]
  refine ⟨rfl, rfl, rfl, fun hblank => if_pos hblank, fun hblank hwf => ?_⟩
  have hlcd : v.ppu.lcd = Sparse.write 0#2 u.ppu.lcd cell (mixedShade u.ppu bg u.ppu.spriteFifo.head?) := by
    rw [hv]
    exact if_neg (by rw [hblank]; exact Bool.false_ne_true)
  have hcell : Sparse.read 0#2 v.ppu.lcd cell = mixedShade u.ppu bg u.ppu.spriteFifo.head? := by
    rw [hlcd]
    exact Sparse.read_write_same 0#2 _ hwf
  rw [← hv, hcell]
  refine ⟨fun k hk => ?_, fun hnone => ?_, fun sp sps hsome => ⟨fun hw => ?_, fun hw => ?_⟩⟩
  · rw [hlcd]
    exact Sparse.read_write_other 0#2 _ _ hk
  · rw [hnone]
    exact shadeOf_toNat _ _
  · rw [hsome]
    exact (congrArg BitVec.toNat (if_pos ((spriteWins_iff bg sp).2 hw))).trans (shadeOf_toNat _ _)
  · rw [hsome]
    exact (congrArg BitVec.toNat (if_neg (mt (spriteWins_iff bg sp).1 hw))).trans (shadeOf_toNat _ _)

end Sys2Proof.Machine
end

section
/-! PROOFS. The values of power-on (O37). -/

namespace Sys2Proof.Machine

/-- A boot image is present exactly with a file of 256 bytes (R9, R491). -/
theorem Launch.boot_isSome_iff (x : Launch) : x.boot.isSome = true ↔ ∃ bs, x.bootFile = some bs ∧ bs.length = 256 := by
  unfold Launch.boot
  cases x.bootFile <;> simp

/-- A cartridge is present exactly with a file of at least 32768 bytes (R9, R491). -/
theorem Launch.rom_isSome_iff (x : Launch) : x.rom.isSome = true ↔ ∃ bs, x.cartFile = some bs ∧ 32768 ≤ bs.length := by
  unfold Launch.rom
  cases x.cartFile <;> simp

/-- Without a boot image the registers are the fallback ones and BANK is 1 (R492). -/
theorem powerOn_of_no_boot {x : Launch} (h : x.boot = none) :
    (State.powerOn x).cpu = Cpu.reset ∧ (State.powerOn x).units.bus.bank = 0x01#8 := by
  unfold State.powerOn
  rw [h]
  exact ⟨rfl, rfl⟩

/-- With one the registers are the launch's, PC is 0 and so is BANK (R491, R493). -/
theorem powerOn_of_boot {x : Launch} {m : Memory} (h : x.boot = some m) :
    (State.powerOn x).cpu = { Cpu.reset with
        a := x.a, f := maskFlags x.f, b := x.b, c := x.c, d := x.d, e := x.e, h := x.h, l := x.l, sp := x.sp
        pc := 0x0000#16 } ∧
      (State.powerOn x).units.bus.bank = 0x00#8 := by
  unfold State.powerOn
  rw [h]
  exact ⟨rfl, rfl⟩

/-- Every launch starts Running with IME clear (R492). -/
theorem powerOn_ime_mode (x : Launch) : (State.powerOn x).cpu.ime = false ∧ (State.powerOn x).cpu.mode = .running := by
  unfold State.powerOn
  cases x.boot <;> exact ⟨rfl, rfl⟩

/-- Settles O37: the boot image's presence decides the registers, PC and BANK; the launch decides nothing else of the
reset values. -/
theorem powerOnValues : Obligations.PowerOnValues := by
  unfold Obligations.PowerOnValues
  intro x
  obtain ⟨hime, hmode⟩ := powerOn_ime_mode x
  refine ⟨x.boot_isSome_iff, x.rom_isSome_iff, fun hnone => ?_, fun hsome => ?_, hime, powerOn_pending x, hmode,
    rfl, rfl, rfl, rfl, rfl, rfl, rfl, rfl, rfl⟩
  · obtain ⟨hcpu, hbank⟩ := powerOn_of_no_boot (Option.not_isSome_iff_eq_none.1 (Bool.eq_false_iff.1 hnone))
    rw [hcpu, hbank]
    exact ⟨rfl, rfl, rfl, rfl, rfl, rfl, rfl, rfl, rfl, rfl, rfl⟩
  · obtain ⟨m, hboot⟩ := Option.isSome_iff_exists.1 hsome
    obtain ⟨hcpu, hbank⟩ := powerOn_of_boot hboot
    rw [hcpu, hbank]
    exact ⟨rfl, rfl, rfl, rfl, rfl, rfl, rfl, rfl, rfl, rfl, rfl⟩

end Sys2Proof.Machine
end
